-- ==== Sys2Proof/Config.lean ====
section
/-! DEFINITION. What one implementation fixes (spec/00_scope.md R10) and the free values of the model. -/

namespace Sys2Proof.Config

/-- The default of `W_TMR` (rule R10), the width of `TIMEOUT`, `TMR_CNT` and `cfg_timeout`. The registers, the
inputs and their encoding, the state, and every operation and meaning take the width as an argument. `Instr`, `exec` and
`step`, whose types the host's interface fixes, stand at this default. DESIGN CHOICE (log 1), safe. -/
abbrev wTmr : Nat := 16

/-- The default of `W_RETRY` (rule R10), the width of `MAXR`, `RETRY_CNT` and `cfg_max_retry`. An argument
like `W_TMR`. DESIGN CHOICE (log 1), safe. -/
abbrev wRetry : Nat := 8

/-- The width of the per-cycle input vector of rule R103: 24 bits of events and reserved bits, then
`cfg_timeout`, then `cfg_max_retry`, which "grow or shrink and move up" with the two widths. -/
abbrev inWidth (wTmr : Nat := Config.wTmr) (wRetry : Nat := Config.wRetry) : Nat := wRetry + wTmr + 24

/-- FREE VALUE (log 6), safe. The input vector of a cycle for which the host has queued no stimulus; the
argument counts such cycles. The spec leaves the inputs to the host, so nothing constrains it. -/
opaque freeInput {wTmr wRetry : Nat} : Nat → BitVec (inWidth wTmr wRetry)

/-- FREE VALUE (log 7), safe. What `RETRY_CNT` holds after an expiry that finds it at its largest value,
as a function of `MAXR`. Rule R186 shows that no reachable state gets here, and no rule states a value. -/
opaque retryPastTop {wRetry : Nat} : BitVec wRetry → BitVec wRetry

end Sys2Proof.Config
end

