-- ==== Sys2Proof/Word.lean ====
section
/-! DEFINITION. The word types: bytes, tick counts, retry counts, the two encoded words. -/

namespace Sys2Proof

/-- A byte is 8 bits (spec/00_scope.md R9). -/
abbrev Byte := BitVec 8

/-- A number of ticks: `W_TMR` bits (R10). -/
abbrev Ticks (wTmr : Nat := Config.wTmr) := BitVec wTmr

/-- A number of expiries: `W_RETRY` bits (R10). -/
abbrev Retries (wRetry : Nat := Config.wRetry) := BitVec wRetry

/-- The per-cycle input vector `IN` (spec/30_encoding.md R103). -/
abbrev InWord (wTmr : Nat := Config.wTmr) (wRetry : Nat := Config.wRetry) :=
  BitVec (Config.inWidth wTmr wRetry)

/-- A whole frame as the 40-bit port value (R74, R125). -/
abbrev FrameWord := BitVec 40

end Sys2Proof
end

