-- ==== Sys2Proof/Syntax.lean ====
section
/-! DEFINITION. The instructions: one constructor of `Instr` for each row of spec/opcode_table.json (R22), and
the types of their operands. -/

namespace Sys2Proof

/-- The role of a session (spec/10_state.md R34). -/
inductive Role where
  | transmitter
  | receiver
  deriving DecidableEq, Repr

/-- The recognition state of the parser (R39). Codes 6 and 7 are left out, as R105 allows. -/
inductive RState where
  | start
  | flagReceived
  | addressReceived
  | controlReceived
  | checksumOk
  | done
  deriving DecidableEq, Repr

/-- The error codes that `ERR` holds (R43, INV1 of R50). The unused codes 4 to 7 are left out, as R105 allows. -/
inductive Err where
  | none
  | channelOpenFailed
  | channelIOFailed
  | connectionTimeout
  deriving DecidableEq, Repr

/-- The named codes of R43, the argument of ERROR_EXIT. `protocolViolation` (code 4) is defined, but no rule raises
it and `ERR` never holds it (R253). -/
inductive ErrCode where
  | none
  | channelOpenFailed
  | channelIOFailed
  | connectionTimeout
  | protocolViolation
  deriving DecidableEq, Repr

/-- The type of a decoded frame (spec/40_codec.md R124). -/
inductive FrameType where
  | set
  | ua
  | untyped
  deriving DecidableEq, Repr

/-- Five bytes in wire order, with the names R91 gives their positions. Any five bytes are a value: a
well-formed control frame is one that meets R92. -/
structure Frame where
  opening : Byte
  addr    : Byte
  ctrl    : Byte
  bcc     : Byte
  closing : Byte
  deriving DecidableEq, Repr

/-- The input ports of one cycle (R48), less the clock: one value of this type is one rising edge. The two widths
are arguments, with the defaults of R10. -/
structure Input (wTmr : Nat := Config.wTmr) (wRetry : Nat := Config.wRetry) where
  rst          : Bool
  cmdValid     : Bool
  cmdOp        : BitVec 3
  cfgRole      : Role
  cfgTimeout   : Ticks wTmr
  cfgMaxRetry  : Retries wRetry
  rxValid      : Bool
  rxData       : Byte
  tick         : Bool
  txReady      : Bool
  chanOpenAck  : Bool
  chanOpenFail : Bool
  chanCloseAck : Bool
  chanErr      : Bool
  deriving DecidableEq, Repr

/-- An encoded object that reaches the block: one cycle's input vector (R103), or a control frame on the wire
(R91). The command (R100) is part of the input vector. -/
inductive Item (wTmr : Nat := Config.wTmr) (wRetry : Nat := Config.wRetry) where
  | cycle (v : InWord wTmr wRetry)
  | frame (v : FrameWord)
  deriving DecidableEq, Repr

/-- The two directions of R125. -/
inductive PackArg where
  | pack (f : Frame)
  | unpack (v : FrameWord)
  deriving DecidableEq, Repr

/-- One constructor per row of spec/opcode_table.json, in the table's order. -/
inductive Instr where
  /-- SET (R93): the frame `7E 03 03 00 7E` on the wire. -/
  | setFrame
  /-- UA (R93): the frame `7E 03 07 04 7E` on the wire. -/
  | uaFrame
  /-- CTRL (R92): any other well-formed control frame, by its address and control bytes. -/
  | ctrlFrame (a c : Byte)
  /-- NOP (R230). -/
  | nop
  /-- OPEN (R221), with the three configuration inputs of its cycle. -/
  | openCmd (role : Role) (timeout : Ticks) (maxRetry : Retries)
  /-- CLOSE (R228). -/
  | closeCmd
  /-- WRITE (R233), reserved. -/
  | writeCmd
  /-- READ (R233), reserved. -/
  | readCmd
  /-- RSVD5 (R233), reserved command code 101. -/
  | rsvd5
  /-- RSVD6 (R233), reserved command code 110. -/
  | rsvd6
  /-- RSVD7 (R233), reserved command code 111. -/
  | rsvd7
  /-- RST (R280). -/
  | rst
  /-- RX_BYTE (R160). -/
  | rxByte (b : Byte)
  /-- TICK (R175). -/
  | tick
  /-- TX_READY (R201). -/
  | txReady
  /-- OPEN_ACK (R222). -/
  | openAck
  /-- OPEN_FAIL (R222). -/
  | openFail
  /-- CLOSE_ACK (R229). -/
  | closeAck
  /-- CHAN_ERR (R254). -/
  | chanErr
  /-- BUILD_FRAME (R120). -/
  | buildFrame (a c : Byte)
  /-- BCC (R121). -/
  | bcc (a c : Byte)
  /-- BCC_CHECK (R122). -/
  | bccCheck (a c k : Byte)
  /-- DECODE_FRAME (R123). -/
  | decodeFrame (f : Frame)
  /-- CLASSIFY (R124). -/
  | classify (a c : Byte)
  /-- PACK40 and UNPACK40 (R125). -/
  | pack40 (x : PackArg)
  /-- PARSE_STEP (R141). -/
  | parseStep (st : RState) (b ea ec : Byte)
  /-- PARSER_RESET (R150). -/
  | parserReset
  /-- PARSE_STEP_CYCLE (R160): it reads the cycle's inputs. -/
  | parseStepCycle (inp : Input)
  /-- TIMER_ARM (R172). -/
  | timerArm
  /-- START_COUNT (R174): it reads the cycle's `tx_ready`. -/
  | startCount (inp : Input)
  /-- TIMER_TICK (R175): it reads the cycle's `tick`. -/
  | timerTick (inp : Input)
  /-- TIMER_EXPIRE (R178). -/
  | timerExpire
  /-- RESEND (R179). -/
  | resend
  /-- EXHAUSTED (R180). -/
  | exhausted
  /-- TIMER_DISARM (R182). -/
  | timerDisarm
  /-- TIMER_STEP (R190), with its arguments `in` and `txdone`. -/
  | timerStep (inp : Input) (txdone : Bool)
  /-- TX_STEP (R201): it reads the cycle's `tx_ready`. -/
  | txStep (inp : Input)
  /-- TX_LOAD (R202). -/
  | txLoad (f : Frame)
  /-- ACCEPT_SET (R225). -/
  | acceptSet
  /-- ACCEPT_UA (R226). -/
  | acceptUa
  /-- ERROR_EXIT (R254), with the error code. -/
  | errorExit (code : ErrCode)
  /-- STEP (R235), with the cycle's inputs. -/
  | step (inp : Input)
  deriving DecidableEq, Repr

/-! The input vectors of a cycle with no event (R106, the line `-`) and of a cycle with exactly one. -/

variable {wTmr wRetry : Nat}

/-- Every input 0. -/
def Input.idle : Input wTmr wRetry :=
  { rst := false, cmdValid := false, cmdOp := 0, cfgRole := .transmitter, cfgTimeout := 0,
    cfgMaxRetry := 0, rxValid := false, rxData := 0, tick := false, txReady := false,
    chanOpenAck := false, chanOpenFail := false, chanCloseAck := false, chanErr := false }

/-- Only a command, with the code `op` (R100). -/
def Input.onlyCmd (op : BitVec 3) : Input wTmr wRetry := { Input.idle with cmdValid := true, cmdOp := op }

/-- Only OPEN, with its configuration (R100, R221). -/
def Input.onlyOpen (role : Role) (timeout : Ticks wTmr) (maxRetry : Retries wRetry) :
    Input wTmr wRetry :=
  { (Input.idle : Input wTmr wRetry) with
    cmdValid := true, cmdOp := 1, cfgRole := role, cfgTimeout := timeout, cfgMaxRetry := maxRetry }

/-- Only `rst`. -/
def Input.onlyRst : Input wTmr wRetry := { Input.idle with rst := true }

/-- Only a received byte. -/
def Input.onlyRx (b : Byte) : Input wTmr wRetry := { Input.idle with rxValid := true, rxData := b }

/-- Only `tick`. -/
def Input.onlyTick : Input wTmr wRetry := { Input.idle with tick := true }

/-- Only `tx_ready`. -/
def Input.onlyTxReady : Input wTmr wRetry := { Input.idle with txReady := true }

/-- Only `chan_open_ack`. -/
def Input.onlyOpenAck : Input wTmr wRetry := { Input.idle with chanOpenAck := true }

/-- Only `chan_open_fail`. -/
def Input.onlyOpenFail : Input wTmr wRetry := { Input.idle with chanOpenFail := true }

/-- Only `chan_close_ack`. -/
def Input.onlyCloseAck : Input wTmr wRetry := { Input.idle with chanCloseAck := true }

/-- Only `chan_err`. -/
def Input.onlyChanErr : Input wTmr wRetry := { Input.idle with chanErr := true }

end Sys2Proof
end

