-- ==== Sys2Proof/Machine/Codec.lean ====
section
/-! DEFINITION. The frame constants (spec/00_scope.md R9) and the frame codec (spec/40_codec.md R120 to R126):
pure, total functions. -/

namespace Sys2Proof.Machine

/-- `FLAG` (R9). -/
def flag : Byte := 0x7E

/-- `A_CMD`, the address of SET and UA (R9). -/
def aCmd : Byte := 0x03

/-- `C_SET` (R9). -/
def cSet : Byte := 0x03

/-- `C_UA` (R9). -/
def cUa : Byte := 0x07

/-- `Bcc(a, c)` (R121). -/
def bcc (a c : Byte) : Byte := a ^^^ c

/-- `BccCheck(a, c, k)` (R122). -/
def bccCheck (a c k : Byte) : Bool := k == bcc a c

/-- `BuildFrame(a, c)` (R120). -/
def buildFrame (a c : Byte) : Frame :=
  { opening := flag, addr := a, ctrl := c, bcc := bcc a c, closing := flag }

/-- `DecodeFrame(b[0..4])` (R123). -/
def decodeFrame (f : Frame) : Option (Byte × Byte) :=
  if f.opening == flag && f.closing == flag && bccCheck f.addr f.ctrl f.bcc then
    some (f.addr, f.ctrl)
  else none

/-- `Classify(a, c)` (R124). -/
def classify (a c : Byte) : FrameType :=
  if a = aCmd ∧ c = cSet then .set
  else if a = aCmd ∧ c = cUa then .ua
  else .untyped

/-- `Pack40(b)` (R125): byte 0 in bits [39:32]. -/
def pack40 (f : Frame) : FrameWord := f.opening ++ f.addr ++ f.ctrl ++ f.bcc ++ f.closing

/-- `Unpack40(v)` (R125). -/
def unpack40 (v : FrameWord) : Frame :=
  { opening := v.extractLsb' 32 8, addr := v.extractLsb' 24 8, ctrl := v.extractLsb' 16 8,
    bcc := v.extractLsb' 8 8, closing := v.extractLsb' 0 8 }

/-- `SET_FRAME` (R126). -/
def setFrame : Frame := buildFrame aCmd cSet

/-- `UA_FRAME` (R126). -/
def uaFrame : Frame := buildFrame aCmd cUa

/-- The bytes of a frame in wire order, the opening FLAG first (R72). -/
def frameBytes (f : Frame) : List Byte := [f.opening, f.addr, f.ctrl, f.bcc, f.closing]

/-- Byte `i` of a frame, counted in wire order (R91). -/
def frameByte (f : Frame) (i : Fin 5) : Byte :=
  match i with
  | ⟨0, _⟩ => f.opening
  | ⟨1, _⟩ => f.addr
  | ⟨2, _⟩ => f.ctrl
  | ⟨3, _⟩ => f.bcc
  | ⟨4, _⟩ => f.closing

end Sys2Proof.Machine
end

