-- ==== Sys2Proof/WellFormed.lean ====
section
/-! DEFINITION. When an instruction is in the form the decoder gives it. -/

namespace Sys2Proof

/-- The cycle holds exactly one event or command, and no operand port beside that event's own is driven:
such a cycle is the table's own row for it, not the general STEP (spec/30_encoding.md R104). -/
def Input.isSingle {wTmr wRetry : Nat} (i : Input wTmr wRetry) : Bool :=
  i == .onlyRst || i == .onlyRx i.rxData || i == .onlyTick || i == .onlyTxReady || i == .onlyOpenAck
    || i == .onlyOpenFail || i == .onlyCloseAck || i == .onlyChanErr
    || i == .onlyOpen i.cfgRole i.cfgTimeout i.cfgMaxRetry || i == .onlyCmd i.cmdOp

/-- The error codes that some rule raises through the error entry (spec/60_exceptions.md R254). -/
def ErrCode.raised : ErrCode → Bool
  | .channelIOFailed | .connectionTimeout => true
  | .none | .channelOpenFailed | .protocolViolation => false

/-- Well-formed instructions. A CTRL frame is one that is neither SET nor UA, which have rows of their own
(R93, R94); ERROR_EXIT carries a code that some rule raises with it (R254); STEP carries a cycle that is no
single event. Every other constructor is well-formed with every operand. -/
def Instr.wellFormed : Instr → Bool
  | .ctrlFrame a c => Machine.classify a c == .untyped
  | .errorExit code => code.raised
  | .step inp => !inp.isSingle
  | .setFrame | .uaFrame | .nop | .openCmd _ _ _ | .closeCmd | .writeCmd | .readCmd | .rsvd5 | .rsvd6
  | .rsvd7 | .rst | .rxByte _ | .tick | .txReady | .openAck | .openFail | .closeAck | .chanErr
  | .buildFrame _ _ | .bcc _ _ | .bccCheck _ _ _ | .decodeFrame _ | .classify _ _ | .pack40 _
  | .parseStep _ _ _ _ | .parserReset | .parseStepCycle _ | .timerArm | .startCount _ | .timerTick _
  | .timerExpire | .resend | .exhausted | .timerDisarm | .timerStep _ _ | .txStep _ | .txLoad _
  | .acceptSet | .acceptUa => true

end Sys2Proof
end

