-- ==== Sys2Proof/Decode.lean ====
section
/-! DEFINITION. Decoding of the encoded objects of spec/30_encoding.md (input vectors R103, control frames R91),
total, rejecting by name, and the encoder. -/

namespace Sys2Proof

/-- Why a word is no instruction. -/
inductive DecodeError where
  /-- A bit of `IN[23:21]` is set (R103: "a model refuses a vector with any of them set"). Safe. -/
  | reservedInputBits
  /-- Byte 0 of a frame word is not FLAG (R92). Safe. -/
  | badOpeningFlag
  /-- Byte 4 of a frame word is not FLAG (R92). Safe. -/
  | badClosingFlag
  /-- The BCC of a frame word is not `ADDR xor CTRL` (R92). Safe. -/
  | badChecksum
  deriving DecidableEq, Repr

/-- The bit of `cfg_role` (R34). -/
def Role.bit : Role → Bool
  | .transmitter => false
  | .receiver => true

/-- The role of a `cfg_role` bit (R34). -/
def Role.ofBit : Bool → Role
  | false => .transmitter
  | true => .receiver

/-- The reserved bits `IN[23:21]` (R103). -/
def reservedBits {wTmr wRetry : Nat} (v : InWord wTmr wRetry) : BitVec 3 := v.extractLsb' 21 3

/-- The ports of an input vector, by the layout of R103, the reserved bits aside. -/
def Input.ofWord {wTmr wRetry : Nat} (v : InWord wTmr wRetry) : Input wTmr wRetry :=
  { rst := v.getLsbD 0, cmdValid := v.getLsbD 1, cmdOp := v.extractLsb' 2 3,
    cfgRole := Role.ofBit (v.getLsbD 5), rxValid := v.getLsbD 6, rxData := v.extractLsb' 7 8,
    tick := v.getLsbD 15, txReady := v.getLsbD 16, chanOpenAck := v.getLsbD 17,
    chanOpenFail := v.getLsbD 18, chanCloseAck := v.getLsbD 19, chanErr := v.getLsbD 20,
    cfgTimeout := v.extractLsb' 24 wTmr,
    cfgMaxRetry := v.extractLsb' (24 + wTmr) wRetry }

/-- The input vector of the ports (R103), the reserved bits 0. -/
def Input.toWord {wTmr wRetry : Nat} (i : Input wTmr wRetry) : InWord wTmr wRetry :=
  i.cfgMaxRetry ++ i.cfgTimeout ++
    ((0 : BitVec 3) ++ BitVec.ofBool i.chanErr
      ++ BitVec.ofBool i.chanCloseAck ++ BitVec.ofBool i.chanOpenFail ++ BitVec.ofBool i.chanOpenAck
      ++ BitVec.ofBool i.txReady ++ BitVec.ofBool i.tick ++ i.rxData ++ BitVec.ofBool i.rxValid
      ++ BitVec.ofBool i.cfgRole.bit ++ i.cmdOp ++ BitVec.ofBool i.cmdValid ++ BitVec.ofBool i.rst : BitVec 24)

/-- The row of a command code (R100), for a cycle with no other event and no configuration. -/
def Instr.ofCommandCode (op : BitVec 3) : Instr :=
  if op = 0 then .nop
  else if op = 1 then .openCmd .transmitter 0 0
  else if op = 2 then .closeCmd
  else if op = 3 then .writeCmd
  else if op = 4 then .readCmd
  else if op = 5 then .rsvd5
  else if op = 6 then .rsvd6
  else .rsvd7

/-- The row of one cycle's inputs: the row of the one event or command it holds, else STEP (R104, R235). -/
def Instr.ofInput (i : Input) : Instr :=
  if i = .onlyRst then .rst
  else if i = .onlyRx i.rxData then .rxByte i.rxData
  else if i = .onlyTick then .tick
  else if i = .onlyTxReady then .txReady
  else if i = .onlyOpenAck then .openAck
  else if i = .onlyOpenFail then .openFail
  else if i = .onlyCloseAck then .closeAck
  else if i = .onlyChanErr then .chanErr
  else if i = .onlyOpen i.cfgRole i.cfgTimeout i.cfgMaxRetry then
    .openCmd i.cfgRole i.cfgTimeout i.cfgMaxRetry
  else if i = .onlyCmd i.cmdOp then Instr.ofCommandCode i.cmdOp
  else .step i

/-- The row of a well-formed control frame, by its type (R92 to R94, R124). -/
def Instr.ofFrame (a c : Byte) : Instr :=
  match Machine.classify a c with
  | .set => .setFrame
  | .ua => .uaFrame
  | .untyped => .ctrlFrame a c

/-- Decode one cycle's input vector (R103). -/
def decodeCycle (v : InWord) : Except DecodeError Instr :=
  if reservedBits v = 0 then .ok (Instr.ofInput (Input.ofWord v)) else .error .reservedInputBits

/-- Decode one frame on the wire (R91, R92). -/
def decodeFrameWord (v : FrameWord) : Except DecodeError Instr :=
  let f := Machine.unpack40 v
  if f.opening ≠ Machine.flag then .error .badOpeningFlag
  else if f.closing ≠ Machine.flag then .error .badClosingFlag
  else if f.bcc ≠ Machine.bcc f.addr f.ctrl then .error .badChecksum
  else .ok (Instr.ofFrame f.addr f.ctrl)

/-- Decode one encoded object. -/
def decode : Item → Except DecodeError Instr
  | .cycle v => decodeCycle v
  | .frame v => decodeFrameWord v

/-- The cycle's inputs that a command, an event or STEP stands for. -/
def Instr.input? : Instr → Option Input
  | .nop => some (.onlyCmd 0)
  | .openCmd role timeout maxRetry => some (.onlyOpen role timeout maxRetry)
  | .closeCmd => some (.onlyCmd 2)
  | .writeCmd => some (.onlyCmd 3)
  | .readCmd => some (.onlyCmd 4)
  | .rsvd5 => some (.onlyCmd 5)
  | .rsvd6 => some (.onlyCmd 6)
  | .rsvd7 => some (.onlyCmd 7)
  | .rst => some .onlyRst
  | .rxByte b => some (.onlyRx b)
  | .tick => some .onlyTick
  | .txReady => some .onlyTxReady
  | .openAck => some .onlyOpenAck
  | .openFail => some .onlyOpenFail
  | .closeAck => some .onlyCloseAck
  | .chanErr => some .onlyChanErr
  | .step inp => some inp
  | .setFrame | .uaFrame | .ctrlFrame _ _ | .buildFrame _ _ | .bcc _ _ | .bccCheck _ _ _
  | .decodeFrame _ | .classify _ _ | .pack40 _ | .parseStep _ _ _ _ | .parserReset
  | .parseStepCycle _ | .timerArm | .startCount _ | .timerTick _ | .timerExpire | .resend
  | .exhausted | .timerDisarm | .timerStep _ _ | .txStep _ | .txLoad _ | .acceptSet | .acceptUa
  | .errorExit _ => none

/-- The frame that a frame row stands for (R93, R95). -/
def Instr.frame? : Instr → Option Frame
  | .setFrame => some Machine.setFrame
  | .uaFrame => some Machine.uaFrame
  | .ctrlFrame a c => some (Machine.buildFrame a c)
  | .nop | .openCmd _ _ _ | .closeCmd | .writeCmd | .readCmd | .rsvd5 | .rsvd6 | .rsvd7 | .rst
  | .rxByte _ | .tick | .txReady | .openAck | .openFail | .closeAck | .chanErr | .buildFrame _ _
  | .bcc _ _ | .bccCheck _ _ _ | .decodeFrame _ | .classify _ _ | .pack40 _ | .parseStep _ _ _ _
  | .parserReset | .parseStepCycle _ | .timerArm | .startCount _ | .timerTick _ | .timerExpire
  | .resend | .exhausted | .timerDisarm | .timerStep _ _ | .txStep _ | .txLoad _ | .acceptSet
  | .acceptUa | .errorExit _ | .step _ => none

/-- The encoded object of an instruction. A micro-operation has none ("internal micro-operation with no
encoding" in the table). -/
def encode (i : Instr) : Option Item :=
  match i.frame? with
  | some f => some (.frame (Machine.pack40 f))
  | none => i.input?.map fun inp => .cycle inp.toWord

/-- The encoded object that a row's table word stands for: the table numbers a frame as its 40-bit `Pack40`
value and a command or an event by its bits of `IN`. No `IN` row of the table has 40 bits. Bits above the
object's own are cut off. -/
def itemOfTableWord (nbits w : Nat) : Item :=
  if nbits = 40 then .frame (BitVec.ofNat 40 w) else .cycle (BitVec.ofNat Config.inWidth w)

/-- The instruction the decoder reads from a table word, the bits above `nbits` being 0. -/
def decodeTableWord (nbits w : Nat) : Option Instr :=
  (decode (itemOfTableWord nbits w)).toOption

end Sys2Proof
end

