-- ==== Sys2Proof/Machine/State.lean ====
section
/-! DEFINITION. The machine's state: the register record of spec/10_state.md R32, and the model's own fields
beside it. The state after reset is that of spec/70_reset_and_hazards.md R280. -/

namespace Sys2Proof.Machine

/-- `SESS`, the link-controller state (R36). Codes 6 and 7 are left out, as R105 allows. -/
inductive Sess where
  /-- 0, `CLOSED`: no session. -/
  | closed
  /-- 1, `OPEN_CHAN`: waiting for the byte channel to open. -/
  | openChan
  /-- 2, `OPEN_WAIT`: a transmitter awaits UA, a receiver awaits SET. -/
  | openWait
  /-- 3, `OPEN_ACK`: a receiver is sending UA. -/
  | openAck
  /-- 4, `OPEN`: the link is established. -/
  | opened
  /-- 5, `CLOSING`: releasing the byte channel. -/
  | closing
  deriving DecidableEq, Repr

/-- `TMR_ST`, the timer state (R46). Code 3 is left out, as R105 allows. -/
inductive TmrSt where
  | idle
  | pend
  | run
  deriving DecidableEq, Repr

/-- The architectural state, field by field the record of R32. The two widths are arguments, with the
defaults of R10. -/
structure Regs (wTmr : Nat := Config.wTmr) (wRetry : Nat := Config.wRetry) where
  /-- `ROLE` (R34). -/
  role     : Role
  /-- `TIMEOUT`, in ticks (R35). -/
  timeout  : Ticks wTmr
  /-- `MAXR` (R35). -/
  maxr     : Retries wRetry
  /-- `SESS` (R36). -/
  sess     : Sess
  /-- `ERR` (R43). -/
  err      : Err
  /-- `ST_DONE` (R44). -/
  stDone   : Bool
  /-- `ST_ABORT` (R44). -/
  stAbort  : Bool
  /-- `RSTATE` (R39). -/
  rstate   : RState
  /-- `EXP_A` (R40). -/
  expA     : Byte
  /-- `EXP_C` (R40). -/
  expC     : Byte
  /-- `FRM_V` (R41). -/
  frmV     : Bool
  /-- `TMR_ST` (R46). -/
  tmrSt    : TmrSt
  /-- `TMR_CNT`, ticks left before expiry (R32). -/
  tmrCnt   : Ticks wTmr
  /-- `RETRY_CNT` (R42). -/
  retryCnt : Retries wRetry
  /-- `TXB`, a frame is being sent (R32). -/
  txb      : Bool
  /-- `TXI`, the index 0 to 4 of the next byte to offer (R32, INV2 of R50). -/
  txi      : Fin 5
  /-- `TXF`, the frame being sent (R32). -/
  txf      : Frame
  deriving DecidableEq, Repr

/-- `ResetState` (R280). -/
def Regs.reset {wTmr wRetry : Nat} : Regs wTmr wRetry :=
  { role := .transmitter, timeout := 0, maxr := 0, sess := .closed, err := .none, stDone := false,
    stAbort := false, rstate := .start, expA := 0, expC := 0, frmV := false, tmrSt := .idle,
    tmrCnt := 0, retryCnt := 0, txb := false, txi := 0,
    txf := { opening := 0, addr := 0, ctrl := 0, bcc := 0, closing := 0 } }

/-- What a micro-operation returned: the value of the function that its rule defines. -/
inductive Result where
  | none
  | byte (b : Byte)
  | bool (b : Bool)
  | frame (f : Frame)
  | pair (p : Option (Byte × Byte))
  | frameType (t : FrameType)
  | word40 (v : FrameWord)
  | parsed (st : RState) (out : Option Frame)
  deriving DecidableEq, Repr

/-- The machine's state. `regs` is the block's; the other three fields are the model's own. -/
structure State (wTmr : Nat := Config.wTmr) (wRetry : Nat := Config.wRetry) where
  /-- The architectural state (R32). -/
  regs   : Regs wTmr wRetry
  /-- MODEL'S OWN (log 4): the value that the last value-returning micro-operation returned. -/
  result : Result
  /-- MODEL'S OWN (log 5): the stimulus the host has queued, the next item first. -/
  stim   : List (Item wTmr wRetry)
  /-- MODEL'S OWN (log 6): how many free input words have been drawn. -/
  draws  : Nat
  deriving DecidableEq, Repr

/-- The machine right after reset: `ResetState` (R280), nothing returned, nothing queued, nothing drawn. -/
def State.reset : State := { regs := Regs.reset, result := .none, stim := [], draws := 0 }

/-- The block has no fault outcome (spec/00_scope.md R23: "Nothing else. The block has no fault outcome"),
so this type has no constructor: nobody raises a fault. Safe. -/
inductive Fault : Type
  deriving DecidableEq, Repr

/-- Why a step has no meaning. -/
inductive Refusal where
  /-- Raised by `exec` for an instruction that has no meaning yet; no arm does. Safe. -/
  | notModelled (mnemonic : String)
  /-- Raised by a cycle that presents one of the reserved command codes 011 to 111 (R102, R233: "A model must
  *refuse* a run that presents one"). Safe. -/
  | reservedCommand (op : BitVec 3)
  /-- Raised by ERROR_EXIT with the code `ProtocolViolation`, which no rule raises and which a model must not
  produce (R253, spec/93 #5). Safe. -/
  | protocolViolationRaised
  /-- Raised by `step` where the next encoded object is no instruction (R92, R103). Safe. -/
  | undecodable (e : DecodeError)
  deriving DecidableEq, Repr

/-- The outcome of an operation on the state. -/
abbrev Outcome (wTmr : Nat := Config.wTmr) (wRetry : Nat := Config.wRetry) :=
  Host.Outcome (State wTmr wRetry) Fault Refusal

end Sys2Proof.Machine
end

