-- ==== Sys2Proof/Machine/Ops.lean ====
section
/-! DEFINITION. The named operations over the registers, the error entry (the block's way of taking an
exception, spec/60_exceptions.md R254), and how an instruction completes.

All reads of a cycle see the state at its start (spec/00_scope.md R15). So an operation that both reads and
writes takes two records: `s`, the state at the start of the cycle, and `n`, the state being written. -/

namespace Sys2Proof.Machine

variable {wTmr wRetry : Nat}

/-- TIMER_ARM (spec/42_timer.md R172). -/
def armTimer (n : Regs wTmr wRetry) : Regs wTmr wRetry := { n with tmrSt := .pend, tmrCnt := 0 }

/-- TIMER_DISARM (R182). -/
def disarmTimer (n : Regs wTmr wRetry) : Regs wTmr wRetry := { n with tmrSt := .idle, tmrCnt := 0 }

/-- PARSER_RESET (spec/41_parser.md R150). -/
def resetParser (n : Regs wTmr wRetry) : Regs wTmr wRetry := { n with rstate := .start }

/-- TX_LOAD (spec/43_session.md R202). -/
def loadFrame (f : Frame) (n : Regs wTmr wRetry) : Regs wTmr wRetry :=
  { n with txf := f, txi := 0, txb := true }

/-- The transmitter's frame is dropped (R254, R229). -/
def dropFrame (n : Regs wTmr wRetry) : Regs wTmr wRetry := { n with txb := false, txi := 0 }

/-- `ERR` is written only while it holds `NONE`: the first error is kept (R255). -/
def recordError (code : Err) (s n : Regs wTmr wRetry) : Regs wTmr wRetry :=
  if s.err = .none then { n with err := code } else n

/-- TAKING AN ERROR, `ErrorExit(code)` (R254): the error is recorded, the timer disarmed, the frame in
progress dropped, and the controller goes to `CLOSING`. There is no return from it (R259): the session ends in
`CLOSED` and a new OPEN clears the record. -/
def errorEntry (code : Err) (s n : Regs wTmr wRetry) : Regs wTmr wRetry :=
  { dropFrame (disarmTimer (recordError code s n)) with sess := .closing }

/-- An operation on the registers runs to its end, from every state (spec/00_scope.md R23). -/
def complete (f : Regs wTmr wRetry → Regs wTmr wRetry) (s : State wTmr wRetry) : Outcome wTmr wRetry :=
  .next { s with regs := f s.regs }

/-- A pure micro-operation returns the value `r`. It reads and writes no register. -/
def answer (r : Result) (s : State wTmr wRetry) : Outcome wTmr wRetry := .next { s with result := r }

/-- An operation on the registers that also returns the value `r` of the state it starts from. -/
def completeWith (f : Regs wTmr wRetry → Regs wTmr wRetry) (r : Regs wTmr wRetry → Result)
    (s : State wTmr wRetry) : Outcome wTmr wRetry :=
  complete f { s with result := r s.regs }

end Sys2Proof.Machine
end

