-- ==== Sys2Proof/Machine/CodecOps.lean ====
section
/-! DEFINITION. The meanings of the codec's rows (spec/40_codec.md): each returns the value of its function and
changes no register. -/

namespace Sys2Proof.Machine

variable {wTmr wRetry : Nat}

/-- BUILD_FRAME (R120). -/
def execBuildFrame (a c : Byte) (s : State wTmr wRetry) : Outcome wTmr wRetry :=
  answer (.frame (buildFrame a c)) s

/-- BCC (R121). -/
def execBcc (a c : Byte) (s : State wTmr wRetry) : Outcome wTmr wRetry := answer (.byte (bcc a c)) s

/-- BCC_CHECK (R122). -/
def execBccCheck (a c k : Byte) (s : State wTmr wRetry) : Outcome wTmr wRetry :=
  answer (.bool (bccCheck a c k)) s

/-- DECODE_FRAME (R123). -/
def execDecodeFrame (f : Frame) (s : State wTmr wRetry) : Outcome wTmr wRetry :=
  answer (.pair (decodeFrame f)) s

/-- CLASSIFY (R124). -/
def execClassify (a c : Byte) (s : State wTmr wRetry) : Outcome wTmr wRetry :=
  answer (.frameType (classify a c)) s

/-- PACK40 and UNPACK40 (R125). -/
def execPack40 (x : PackArg) (s : State wTmr wRetry) : Outcome wTmr wRetry :=
  match x with
  | .pack f => answer (.word40 (pack40 f)) s
  | .unpack v => answer (.frame (unpack40 v)) s

end Sys2Proof.Machine
end

