-- ==== Sys2Proof/Machine/Flags.lean ====
section
/-! DEFINITION. The flags: `ST_DONE` and `ST_ABORT` (spec/10_state.md R44) and the Done-event pulse `FRM_V`
(R41). -/

namespace Sys2Proof.Machine

variable {wTmr wRetry : Nat}

/-- `ST_DONE` is set when the awaited frame is validated (R44). -/
def setDone (n : Regs wTmr wRetry) : Regs wTmr wRetry := { n with stDone := true }

/-- `ST_ABORT` is set when the retry counter reaches its maximum (R44, spec/42_timer.md R180). -/
def setAbort (n : Regs wTmr wRetry) : Regs wTmr wRetry := { n with stAbort := true }

/-- An accepted OPEN clears both sticky flags (R44). -/
def clearSticky (n : Regs wTmr wRetry) : Regs wTmr wRetry := { n with stDone := false, stAbort := false }

/-- Every cycle first writes `FRM_V <- 0` (spec/41_parser.md R160). -/
def clearFrameValid (n : Regs wTmr wRetry) : Regs wTmr wRetry := { n with frmV := false }

/-- A Done event writes `FRM_V <- 1` (R160). -/
def pulseFrameValid (n : Regs wTmr wRetry) : Regs wTmr wRetry := { n with frmV := true }

end Sys2Proof.Machine
end

