-- ==== Sys2Proof/Machine/Operands.lean ====
section
/-! DEFINITION. What the operations read from one cycle's inputs: the command (spec/30_encoding.md R100), the
received byte and the transmit handshake (spec/00_scope.md R16). -/

namespace Sys2Proof.Machine

variable {wTmr wRetry : Nat}

/-- The command codes of R100. -/
inductive Command where
  | nop
  | opn
  | close
  | write
  | read
  | rsvd5
  | rsvd6
  | rsvd7
  deriving DecidableEq, Repr

/-- The command of a code on `cmd_op` (R100). -/
def commandOfCode (op : BitVec 3) : Command :=
  if op = 0 then .nop
  else if op = 1 then .opn
  else if op = 2 then .close
  else if op = 3 then .write
  else if op = 4 then .read
  else if op = 5 then .rsvd5
  else if op = 6 then .rsvd6
  else .rsvd7

/-- `command` of R235: the code when `cmd_valid = 1`, and NOP otherwise. -/
def command (inp : Input wTmr wRetry) : Command :=
  if inp.cmdValid then commandOfCode inp.cmdOp else .nop

/-- The reserved commands (R102): WRITE, READ and the codes 101, 110 and 111. -/
def isReserved : Command → Bool
  | .nop | .opn | .close => false
  | .write | .read | .rsvd5 | .rsvd6 | .rsvd7 => true

/-- `RxByte()` (R16). -/
def rxByteIn (inp : Input wTmr wRetry) : Option Byte := if inp.rxValid then some inp.rxData else none

/-- `TxAccepted()` (R16): the channel takes the offered byte in this cycle. -/
def txAccepted (s : Regs wTmr wRetry) (inp : Input wTmr wRetry) : Bool := s.txb && inp.txReady

/-- `txdone` (spec/43_session.md R201): the last byte of the frame is taken in this cycle. -/
def txDone (s : Regs wTmr wRetry) (inp : Input wTmr wRetry) : Bool := txAccepted s inp && decide (s.txi = 4)

/-- The byte that the channel takes in this cycle, if it takes one (R201, R78). Not even `rst` in the same
cycle takes it back, because `tx_valid` is a function of the state alone (R17). -/
def takenByte (s : Regs wTmr wRetry) (inp : Input wTmr wRetry) : Option Byte :=
  if txAccepted s inp then some (frameByte s.txf s.txi) else none

/-- The parser is active exactly in `OPEN_WAIT` (spec/41_parser.md R161). -/
def parserActive (s : Regs wTmr wRetry) : Bool := decide (s.sess = .openWait)

/-- The byte that the parser consumes in this cycle, if it consumes one (R162): `rx_valid = 1`,
`SESS = OPEN_WAIT` and `chan_err = 0`. -/
def consumedByte (s : Regs wTmr wRetry) (inp : Input wTmr wRetry) : Option Byte :=
  if parserActive s && !inp.chanErr then rxByteIn inp else none

end Sys2Proof.Machine
end

