-- ==== Sys2Proof/Machine/Parser.lean ====
section
/-! DEFINITION. The reception state machine (spec/41_parser.md) and the meanings of its rows. -/

namespace Sys2Proof.Machine

variable {wTmr wRetry : Nat}

/-- The next recognition state (R141 to R148). The FLAG test comes first in every row (R148), and `Done` is
processed as `Start` (R147). -/
def parseNext (st : RState) (b ea ec : Byte) : RState :=
  match st with
  | .start | .done => if b = flag then .flagReceived else .start
  | .flagReceived =>
    if b = flag then .flagReceived else if b = ea then .addressReceived else .start
  | .addressReceived =>
    if b = flag then .flagReceived else if b = ec then .controlReceived else .start
  | .controlReceived =>
    if b = flag then .flagReceived else if bccCheck ea ec b then .checksumOk else .start
  | .checksumOk => if b = flag then .done else .start

/-- `ParseStep(st, b, ea, ec)` (R141): the next state, and the verified frame on the step that enters `Done`
(R149). -/
def parseStep (st : RState) (b ea ec : Byte) : RState × Option Frame :=
  let nx := parseNext st b ea ec
  (nx, if nx = .done then some (buildFrame ea ec) else none)

/-- The parser's part of a cycle that consumes the byte `b` (R160): `RSTATE`, and `FRM_V` on a Done event. -/
def consume (b : Byte) (s n : Regs wTmr wRetry) : Regs wTmr wRetry :=
  let nx := (parseStep s.rstate b s.expA s.expC).1
  let n := { n with rstate := nx }
  if nx = .done then pulseFrameValid n else n

/-- A Done event (spec/00_scope.md R21): the byte consumed in this cycle takes the parser into `Done`. -/
def doneEvent (s : Regs wTmr wRetry) (inp : Input wTmr wRetry) : Bool :=
  match consumedByte s inp with
  | some b => decide ((parseStep s.rstate b s.expA s.expC).1 = .done)
  | none => false

/-- The PARSE_STEP micro-operation of one cycle (R160): `FRM_V <- 0`, then the byte, if one is consumed. A cycle
that consumes none leaves `RSTATE` unchanged (R151). -/
def parseCycle (inp : Input wTmr wRetry) (s n : Regs wTmr wRetry) : Regs wTmr wRetry :=
  let n := clearFrameValid n
  match consumedByte s inp with
  | some b => consume b s n
  | none => n

/-- PARSE_STEP (R141). -/
def execParseStep (st : RState) (b ea ec : Byte) (s : State wTmr wRetry) : Outcome wTmr wRetry :=
  let p := parseStep st b ea ec
  answer (.parsed p.1 p.2) s

/-- PARSER_RESET (R150). -/
def execParserReset (s : State wTmr wRetry) : Outcome wTmr wRetry := complete resetParser s

/-- PARSE_STEP_CYCLE (R160). -/
def execParseStepCycle (inp : Input wTmr wRetry) (s : State wTmr wRetry) : Outcome wTmr wRetry :=
  complete (fun r => parseCycle inp r r) s

end Sys2Proof.Machine
end

