-- ==== Sys2Proof/Machine/Timer.lean ====
section
/-! DEFINITION. The retransmission timer and the retry counter (spec/42_timer.md) and the meanings of their
rows. -/

namespace Sys2Proof.Machine

variable {wTmr wRetry : Nat}

/-- The number of expiries counting this one, `c = RETRY_CNT + 1` as a natural number (R178, R14). -/
def expiries (s : Regs wTmr wRetry) : Nat := s.retryCnt.toNat + 1

/-- What an expiry writes to `RETRY_CNT` (R178). `c` fits in every reachable state (R186). Where it does not,
no rule states a value: a free value (log 7). -/
def nextRetry (s : Regs wTmr wRetry) : Retries wRetry :=
  if expiries s < 2 ^ wRetry then s.retryCnt + 1 else Config.retryPastTop s.maxr

/-- `Resend()` (R179). -/
def resendSet (n : Regs wTmr wRetry) : Regs wTmr wRetry := armTimer (loadFrame setFrame n)

/-- `Exhausted()` (R180). -/
def exhaust (s n : Regs wTmr wRetry) : Regs wTmr wRetry := errorEntry .connectionTimeout s (setAbort n)

/-- `Expire()` (R178): count the expiry, then give up when the count has reached or passed `MAXR` (R181), else
resend. -/
def expire (s n : Regs wTmr wRetry) : Regs wTmr wRetry :=
  let n := { n with retryCnt := nextRetry s }
  if s.maxr.toNat ≤ expiries s then exhaust s n else resendSet n

/-- START_COUNT (R174): a pending timer starts counting when the frame it guards has been taken. -/
def startCounting (txdone : Bool) (s n : Regs wTmr wRetry) : Regs wTmr wRetry :=
  if s.tmrSt = .pend ∧ txdone then { n with tmrSt := .run, tmrCnt := s.timeout } else n

/-- TIMER_TICK (R175): a running timer counts one tick, and expires on the last (R176). -/
def countTick (tick : Bool) (s n : Regs wTmr wRetry) : Regs wTmr wRetry :=
  if s.tmrSt = .run ∧ tick then
    if s.tmrCnt.toNat ≤ 1 then expire s n else { n with tmrCnt := s.tmrCnt - 1 }
  else n

/-- `TimerStep(s, in, txdone)` (R190). -/
def timerCycle (inp : Input wTmr wRetry) (txdone : Bool) (s n : Regs wTmr wRetry) : Regs wTmr wRetry :=
  if s.tmrSt = .pend ∧ txdone then startCounting txdone s n else countTick inp.tick s n

/-- A higher-priority event of R188 takes the cycle: inside `OPEN_WAIT`, `chan_err` or a Done event. -/
def preempted (inp : Input wTmr wRetry) (s : Regs wTmr wRetry) : Bool :=
  parserActive s && (inp.chanErr || doneEvent s inp)

/-- TIMER_ARM (R172). -/
def execTimerArm (s : State wTmr wRetry) : Outcome wTmr wRetry := complete armTimer s

/-- START_COUNT (R174), below the higher-priority events of R188. -/
def execStartCount (inp : Input wTmr wRetry) (s : State wTmr wRetry) : Outcome wTmr wRetry :=
  complete (fun r => if preempted inp r then r else startCounting (txDone r inp) r r) s

/-- TIMER_TICK (R175), in a cycle with "no higher-priority event (rule R188)". -/
def execTimerTick (inp : Input wTmr wRetry) (s : State wTmr wRetry) : Outcome wTmr wRetry :=
  complete (fun r => if preempted inp r then r else countTick inp.tick r r) s

/-- TIMER_EXPIRE (R178). -/
def execTimerExpire (s : State wTmr wRetry) : Outcome wTmr wRetry :=
  complete (fun r => expire r r) s

/-- RESEND (R179). -/
def execResend (s : State wTmr wRetry) : Outcome wTmr wRetry := complete resendSet s

/-- EXHAUSTED (R180). -/
def execExhausted (s : State wTmr wRetry) : Outcome wTmr wRetry :=
  complete (fun r => exhaust r r) s

/-- TIMER_DISARM (R182). -/
def execTimerDisarm (s : State wTmr wRetry) : Outcome wTmr wRetry := complete disarmTimer s

/-- TIMER_STEP (R190). -/
def execTimerStep (inp : Input wTmr wRetry) (txdone : Bool) (s : State wTmr wRetry) : Outcome wTmr wRetry :=
  complete (fun r => timerCycle inp txdone r r) s

end Sys2Proof.Machine
end

