-- ==== Sys2Proof/Machine/Session.lean ====
section
/-! DEFINITION. The transmitter, the link controller and the cycle step (spec/43_session.md), and the meanings
of their rows. -/

namespace Sys2Proof.Machine

variable {wTmr wRetry : Nat}

/-- TX_STEP (R201): a byte the channel takes moves the transmitter on; the last one ends the frame. -/
def transmit (inp : Input wTmr wRetry) (s n : Regs wTmr wRetry) : Regs wTmr wRetry :=
  if txAccepted s inp then
    if s.txi = 4 then dropFrame n else { n with txi := s.txi + 1 }
  else n

/-- The frame a role awaits, as the control byte of R40: a transmitter awaits UA, a receiver SET. -/
def awaitedCtrl : Role → Byte
  | .transmitter => cUa
  | .receiver => cSet

/-- OPEN accepted (R221). -/
def openAccept (inp : Input wTmr wRetry) (n : Regs wTmr wRetry) : Regs wTmr wRetry :=
  { disarmTimer (resetParser (clearSticky n)) with
    role := inp.cfgRole, timeout := inp.cfgTimeout, maxr := inp.cfgMaxRetry, err := .none,
    retryCnt := 0, expA := aCmd, expC := awaitedCtrl inp.cfgRole, sess := .openChan }

/-- Channel open (R222): `chan_open_fail` wins over `chan_open_ack`. -/
def channelOpen (inp : Input wTmr wRetry) (s n : Regs wTmr wRetry) : Regs wTmr wRetry :=
  if inp.chanOpenFail then { n with err := .channelOpenFailed, sess := .closed }
  else if inp.chanOpenAck then
    let n := { n with sess := .openWait }
    match s.role with
    | .transmitter => armTimer (loadFrame setFrame n)
    | .receiver => n
  else n

/-- AcceptUA (R226). -/
def acceptUA (n : Regs wTmr wRetry) : Regs wTmr wRetry := { disarmTimer n with sess := .opened }

/-- AcceptSET (R225). -/
def acceptSET (n : Regs wTmr wRetry) : Regs wTmr wRetry := { loadFrame uaFrame n with sess := .openAck }

/-- Awaiting the reply or the request (R224), in the priority of R188. -/
def awaitReply (inp : Input wTmr wRetry) (txdone : Bool) (s n : Regs wTmr wRetry) : Regs wTmr wRetry :=
  if inp.chanErr then errorEntry .channelIOFailed s n
  else
    let n := parseCycle inp s n
    if doneEvent s inp then
      let n := setDone n
      match s.role with
      | .transmitter => acceptUA n
      | .receiver => acceptSET n
    else
      match s.role with
      | .transmitter => timerCycle inp txdone s n
      | .receiver => n

/-- Sending UA (R227). -/
def sendingUA (inp : Input wTmr wRetry) (txdone : Bool) (s n : Regs wTmr wRetry) : Regs wTmr wRetry :=
  if inp.chanErr then errorEntry .channelIOFailed s n
  else if txdone then { n with sess := .opened }
  else n

/-- The open link (R234), with CLOSE accepted (R228). -/
def linkOpen (inp : Input wTmr wRetry) (s n : Regs wTmr wRetry) : Regs wTmr wRetry :=
  if inp.chanErr then errorEntry .channelIOFailed s n
  else if command inp = .close then { n with sess := .closing }
  else n

/-- Channel release (R229). -/
def release (inp : Input wTmr wRetry) (s n : Regs wTmr wRetry) : Regs wTmr wRetry :=
  if inp.chanErr then { dropFrame (recordError .channelIOFailed s n) with sess := .closed }
  else if s.txb = false ∧ inp.chanCloseAck then { n with sess := .closed }
  else n

/-- The controller's part of a cycle, by `SESS` (R220, R235). -/
def controller (inp : Input wTmr wRetry) (txdone : Bool) (s n : Regs wTmr wRetry) : Regs wTmr wRetry :=
  match s.sess with
  | .closed => if command inp = .opn then openAccept inp n else n
  | .openChan => channelOpen inp s n
  | .openWait => awaitReply inp txdone s n
  | .openAck => sendingUA inp txdone s n
  | .opened => linkOpen inp s n
  | .closing => release inp s n

/-- `Step(s, in)` (R235) for a cycle without a reserved command: reset first (R280), else TX_STEP and then the
controller, every field not written keeping its value. -/
def cycle (inp : Input wTmr wRetry) (s : Regs wTmr wRetry) : Regs wTmr wRetry :=
  if inp.rst then Regs.reset
  else controller inp (txDone s inp) s (transmit inp s (clearFrameValid s))

/-- The outcome of one clock cycle: a reserved command is refused before `Step` is applied (R233, R235), and any
other cycle completes. -/
def runCycle (inp : Input wTmr wRetry) (s : State wTmr wRetry) : Outcome wTmr wRetry :=
  if isReserved (command inp) then .refused (.reservedCommand inp.cmdOp)
  else complete (cycle inp) s

/-- STEP (R235). -/
def execStep (inp : Input wTmr wRetry) (s : State wTmr wRetry) : Outcome wTmr wRetry := runCycle inp s

/-- TX_STEP (R201): it returns `txdone`. -/
def execTxStep (inp : Input wTmr wRetry) (s : State wTmr wRetry) : Outcome wTmr wRetry :=
  completeWith (fun r => transmit inp r r) (fun r => .bool (txDone r inp)) s

/-- TX_LOAD (R202). -/
def execTxLoad (f : Frame) (s : State wTmr wRetry) : Outcome wTmr wRetry := complete (loadFrame f) s

/-- ACCEPT_SET (R225). -/
def execAcceptSet (s : State wTmr wRetry) : Outcome wTmr wRetry := complete acceptSET s

/-- ACCEPT_UA (R226). -/
def execAcceptUa (s : State wTmr wRetry) : Outcome wTmr wRetry := complete acceptUA s

/-- ERROR_EXIT (spec/60_exceptions.md R254). `ProtocolViolation` is raised by no rule, and a model must not
produce it (R253, spec/93 #5): refused. -/
def execErrorExit (code : ErrCode) (s : State wTmr wRetry) : Outcome wTmr wRetry :=
  match code with
  | .protocolViolation => .refused .protocolViolationRaised
  | .none => complete (fun r => errorEntry .none r r) s
  | .channelOpenFailed => complete (fun r => errorEntry .channelOpenFailed r r) s
  | .channelIOFailed => complete (fun r => errorEntry .channelIOFailed r r) s
  | .connectionTimeout => complete (fun r => errorEntry .connectionTimeout r r) s

end Sys2Proof.Machine
end

