-- ==== Sys2Proof/Machine/Commands.lean ====
section
/-! DEFINITION. The meanings of the command rows (spec/30_encoding.md R100): one cycle that presents the command
and no other event. -/

namespace Sys2Proof.Machine

variable {wTmr wRetry : Nat}

/-- NOP (spec/43_session.md R230): no effect of its own. -/
def execNop (s : State wTmr wRetry) : Outcome wTmr wRetry := runCycle (.onlyCmd 0) s

/-- OPEN (R221), accepted in `CLOSED` and ignored elsewhere (R231). -/
def execOpen (role : Role) (timeout : Ticks wTmr) (maxRetry : Retries wRetry) (s : State wTmr wRetry) :
    Outcome wTmr wRetry :=
  runCycle (.onlyOpen role timeout maxRetry) s

/-- CLOSE (R228), accepted in `OPEN` and ignored elsewhere (R231). -/
def execClose (s : State wTmr wRetry) : Outcome wTmr wRetry := runCycle (.onlyCmd 2) s

/-- WRITE (R233): reserved. "A model must *refuse* a run that presents one". -/
def execWrite (_s : State wTmr wRetry) : Outcome wTmr wRetry := .refused (.reservedCommand 3)

/-- READ (R233): reserved. -/
def execRead (_s : State wTmr wRetry) : Outcome wTmr wRetry := .refused (.reservedCommand 4)

/-- RSVD5 (R233): reserved code 101. -/
def execRsvd5 (_s : State wTmr wRetry) : Outcome wTmr wRetry := .refused (.reservedCommand 5)

/-- RSVD6 (R233): reserved code 110. -/
def execRsvd6 (_s : State wTmr wRetry) : Outcome wTmr wRetry := .refused (.reservedCommand 6)

/-- RSVD7 (R233): reserved code 111. -/
def execRsvd7 (_s : State wTmr wRetry) : Outcome wTmr wRetry := .refused (.reservedCommand 7)

end Sys2Proof.Machine
end

