-- ==== Sys2Proof/Machine/Events.lean ====
section
/-! DEFINITION. The meanings of the input-event rows (spec/30_encoding.md R104): one cycle that presents the event
and nothing else. -/

namespace Sys2Proof.Machine

variable {wTmr wRetry : Nat}

/-- RST (spec/70_reset_and_hazards.md R280). -/
def execRst (s : State wTmr wRetry) : Outcome wTmr wRetry := runCycle .onlyRst s

/-- RX_BYTE (spec/41_parser.md R160): consumed in `OPEN_WAIT`, dropped elsewhere (R163). -/
def execRxByte (b : Byte) (s : State wTmr wRetry) : Outcome wTmr wRetry := runCycle (.onlyRx b) s

/-- TICK (spec/42_timer.md R175): counted while the timer runs, else without effect (R177). -/
def execTick (s : State wTmr wRetry) : Outcome wTmr wRetry := runCycle .onlyTick s

/-- TX_READY (spec/43_session.md R201): takes the offered byte, else without effect. -/
def execTxReady (s : State wTmr wRetry) : Outcome wTmr wRetry := runCycle .onlyTxReady s

/-- OPEN_ACK (R222), honoured in `OPEN_CHAN` only (R294). -/
def execOpenAck (s : State wTmr wRetry) : Outcome wTmr wRetry := runCycle .onlyOpenAck s

/-- OPEN_FAIL (R222), honoured in `OPEN_CHAN` only (R294). -/
def execOpenFail (s : State wTmr wRetry) : Outcome wTmr wRetry := runCycle .onlyOpenFail s

/-- CLOSE_ACK (R229), honoured in `CLOSING` with an idle transmitter only (R294). -/
def execCloseAck (s : State wTmr wRetry) : Outcome wTmr wRetry := runCycle .onlyCloseAck s

/-- CHAN_ERR (spec/60_exceptions.md R254): the error entry, or the end of the close (R229); ignored in `CLOSED` and
`OPEN_CHAN` (R251). -/
def execChanErr (s : State wTmr wRetry) : Outcome wTmr wRetry := runCycle .onlyChanErr s

end Sys2Proof.Machine
end

