-- ==== Sys2Proof/Machine/Frames.lean ====
section
/-! DEFINITION. The meanings of the frame rows (spec/30_encoding.md R91 to R94): a control frame that reaches the
core on its receive stream. A frame is five bytes, one a cycle (spec/20_memory.md R76), the opening FLAG first (R72):
the cycles of SENDFRAME (R107). The frames the core itself sends leave by TX_LOAD and TX_STEP. -/

namespace Sys2Proof.Machine

variable {wTmr wRetry : Nat}

/-- The cycles of R107's `RXS`: one received byte each, and no other event. -/
def rxCycles (bs : List Byte) : List (Input wTmr wRetry) := bs.map Input.onlyRx

/-- Cycle after cycle, in order (R79). -/
def runCycles (ins : List (Input wTmr wRetry)) (r : Regs wTmr wRetry) : Regs wTmr wRetry :=
  ins.foldl (fun n i => cycle i n) r

/-- The five cycles in which a frame arrives. -/
def receiveFrame (f : Frame) (r : Regs wTmr wRetry) : Regs wTmr wRetry := runCycles (rxCycles (frameBytes f)) r

/-- SET (R93) arrives: `7E 03 03 00 7E`. -/
def execSetFrame (s : State wTmr wRetry) : Outcome wTmr wRetry := complete (receiveFrame setFrame) s

/-- UA (R93) arrives: `7E 03 07 04 7E`. -/
def execUaFrame (s : State wTmr wRetry) : Outcome wTmr wRetry := complete (receiveFrame uaFrame) s

/-- CTRL (R92, R94) arrives: the well-formed control frame of an address and a control byte. -/
def execCtrlFrame (a c : Byte) (s : State wTmr wRetry) : Outcome wTmr wRetry :=
  complete (receiveFrame (buildFrame a c)) s

end Sys2Proof.Machine
end

