-- ==== Sys2Proof/Machine/Dispatch.lean ====
section
/-! DEFINITION. The meaning of each instruction: one arm per row of spec/opcode_table.json. -/

namespace Sys2Proof.Machine

def exec (i : Instr) (s : State) : Host.Outcome State Fault Refusal :=
  match i with
  | .setFrame => Sys2Proof.Machine.execSetFrame s
  | .uaFrame => Sys2Proof.Machine.execUaFrame s
  | .ctrlFrame a c => Sys2Proof.Machine.execCtrlFrame a c s
  | .nop => Sys2Proof.Machine.execNop s
  | .openCmd role timeout maxRetry => Sys2Proof.Machine.execOpen role timeout maxRetry s
  | .closeCmd => Sys2Proof.Machine.execClose s
  | .writeCmd => Sys2Proof.Machine.execWrite s
  | .readCmd => Sys2Proof.Machine.execRead s
  | .rsvd5 => Sys2Proof.Machine.execRsvd5 s
  | .rsvd6 => Sys2Proof.Machine.execRsvd6 s
  | .rsvd7 => Sys2Proof.Machine.execRsvd7 s
  | .rst => Sys2Proof.Machine.execRst s
  | .rxByte b => Sys2Proof.Machine.execRxByte b s
  | .tick => Sys2Proof.Machine.execTick s
  | .txReady => Sys2Proof.Machine.execTxReady s
  | .openAck => Sys2Proof.Machine.execOpenAck s
  | .openFail => Sys2Proof.Machine.execOpenFail s
  | .closeAck => Sys2Proof.Machine.execCloseAck s
  | .chanErr => Sys2Proof.Machine.execChanErr s
  | .buildFrame a c => Sys2Proof.Machine.execBuildFrame a c s
  | .bcc a c => Sys2Proof.Machine.execBcc a c s
  | .bccCheck a c k => Sys2Proof.Machine.execBccCheck a c k s
  | .decodeFrame f => Sys2Proof.Machine.execDecodeFrame f s
  | .classify a c => Sys2Proof.Machine.execClassify a c s
  | .pack40 x => Sys2Proof.Machine.execPack40 x s
  | .parseStep st b ea ec => Sys2Proof.Machine.execParseStep st b ea ec s
  | .parserReset => Sys2Proof.Machine.execParserReset s
  | .parseStepCycle inp => Sys2Proof.Machine.execParseStepCycle inp s
  | .timerArm => Sys2Proof.Machine.execTimerArm s
  | .startCount inp => Sys2Proof.Machine.execStartCount inp s
  | .timerTick inp => Sys2Proof.Machine.execTimerTick inp s
  | .timerExpire => Sys2Proof.Machine.execTimerExpire s
  | .resend => Sys2Proof.Machine.execResend s
  | .exhausted => Sys2Proof.Machine.execExhausted s
  | .timerDisarm => Sys2Proof.Machine.execTimerDisarm s
  | .timerStep inp txdone => Sys2Proof.Machine.execTimerStep inp txdone s
  | .txStep inp => Sys2Proof.Machine.execTxStep inp s
  | .txLoad f => Sys2Proof.Machine.execTxLoad f s
  | .acceptSet => Sys2Proof.Machine.execAcceptSet s
  | .acceptUa => Sys2Proof.Machine.execAcceptUa s
  | .errorExit code => Sys2Proof.Machine.execErrorExit code s
  | .step inp => Sys2Proof.Machine.execStep inp s

end Sys2Proof.Machine
end

