-- ==== Sys2Proof/Machine/Fetch.lean ====
section
/-! DEFINITION. Where the next encoded object comes from. The block fetches no instructions (spec/20_memory.md
R83): what it runs next is what the host presents. -/

namespace Sys2Proof.Machine

variable {wTmr wRetry : Nat}

/-- The next encoded object, and the state with it taken: the first item queued, or, where the host has queued
nothing, a cycle of free inputs (log 6). -/
def fetch (s : State wTmr wRetry) : Item wTmr wRetry × State wTmr wRetry :=
  match s.stim with
  | item :: rest => (item, { s with stim := rest })
  | [] => (.cycle (Config.freeInput s.draws), { s with draws := s.draws + 1 })

end Sys2Proof.Machine
end

