-- ==== Sys2Proof/Machine/Step.lean ====
section
/-! DEFINITION. One step of the machine: take the next encoded object, decode it, run it. -/

namespace Sys2Proof.Machine

/-- One step. An object that is no instruction is refused by the decoder's name for it. -/
def step (s : State) : Host.Outcome State Fault Refusal :=
  match decode (fetch s).1 with
  | .ok i => exec i (fetch s).2
  | .error e => .refused (.undecodable e)

/-- `s` with the encoded object of a table word queued in front, so that the next step runs it. -/
def State.withFetchWord (s : State) (nbits w : Nat) : State :=
  { s with stim := itemOfTableWord nbits w :: s.stim }

end Sys2Proof.Machine
end

