-- ==== Sys2Proof/Machine/Stimulus.lean ====
section
/-! DEFINITION. The stimulus notation of spec/30_encoding.md R106 and R107: a program for the block is a sequence of
cycles, and this is what each line of one stands for. -/

namespace Sys2Proof.Machine

variable {wTmr wRetry : Nat}

/-- The items of a line (R106). -/
inductive StimItem (wTmr : Nat := Config.wTmr) (wRetry : Nat := Config.wRetry) where
  | rst
  | opn (role : Role) (timeout : Ticks wTmr) (maxRetry : Retries wRetry)
  | close
  | nop
  | write
  | read
  | rx (b : Byte)
  | tick
  | txr
  | oack
  | ofail
  | cack
  | err
  deriving DecidableEq, Repr

/-- The ports an item sets (R106). -/
def StimItem.apply (x : StimItem wTmr wRetry) (i : Input wTmr wRetry) : Input wTmr wRetry :=
  match x with
  | .rst => { i with rst := true }
  | .opn role timeout maxRetry =>
    { i with cmdValid := true, cmdOp := 1, cfgRole := role, cfgTimeout := timeout,
             cfgMaxRetry := maxRetry }
  | .close => { i with cmdValid := true, cmdOp := 2 }
  | .nop => { i with cmdValid := true, cmdOp := 0 }
  | .write => { i with cmdValid := true, cmdOp := 3 }
  | .read => { i with cmdValid := true, cmdOp := 4 }
  | .rx b => { i with rxValid := true, rxData := b }
  | .tick => { i with tick := true }
  | .txr => { i with txReady := true }
  | .oack => { i with chanOpenAck := true }
  | .ofail => { i with chanOpenFail := true }
  | .cack => { i with chanCloseAck := true }
  | .err => { i with chanErr := true }

/-- The inputs of a line's cycle: the items' ports set, every other input 0. Where two items of a line set one
port, the later one's value stands. DESIGN CHOICE (log 11), safe: the notation gives such a line no meaning. -/
def lineInput (xs : List (StimItem wTmr wRetry)) : Input wTmr wRetry :=
  xs.foldl (fun i x => x.apply i) Input.idle

/-- The lines and directives of a program (R106, R107). `xs` are the items that stand on the same line; the four
receiving lines put them on their first cycle. -/
inductive StimLine (wTmr : Nat := Config.wTmr) (wRetry : Nat := Config.wRetry) where
  | cycle (xs : List (StimItem wTmr wRetry))
  | always (x : StimItem wTmr wRetry)
  | never (x : StimItem wTmr wRetry)
  | rxs (h : Byte) (hs : List Byte) (xs : List (StimItem wTmr wRetry))
  | idle (n : Nat)
  | sendFrame (a c : Byte) (xs : List (StimItem wTmr wRetry))
  | sendSet (xs : List (StimItem wTmr wRetry))
  | sendUa (xs : List (StimItem wTmr wRetry))
  deriving DecidableEq, Repr

/-- The cycles of `RXS h hs` with the items `xs` on the first of them (R107). -/
def rxsCycles (standing : List (StimItem wTmr wRetry)) (h : Byte) (hs : List Byte)
    (xs : List (StimItem wTmr wRetry)) : List (Input wTmr wRetry) :=
  lineInput (standing ++ .rx h :: xs) :: hs.map fun b => lineInput (standing ++ [.rx b])

/-- The cycles of `SENDFRAME a c` with the items `xs` on its line: `RXS 7E a c (a xor c) 7E` with those items (R107). -/
def sendFrameCycles (standing : List (StimItem wTmr wRetry)) (a c : Byte)
    (xs : List (StimItem wTmr wRetry)) : List (Input wTmr wRetry) :=
  rxsCycles standing flag [a, c, bcc a c, flag] xs

/-- The cycles of a program, `standing` being the `.always` items in force (R107). -/
def expandLines : List (StimLine wTmr wRetry) → List (StimItem wTmr wRetry) → List (Input wTmr wRetry)
  | [], _ => []
  | .cycle xs :: ls, standing => lineInput (standing ++ xs) :: expandLines ls standing
  | .always x :: ls, standing => expandLines ls (standing ++ [x])
  | .never x :: ls, standing => expandLines ls (standing.filter fun y => y != x)
  | .rxs h hs xs :: ls, standing => rxsCycles standing h hs xs ++ expandLines ls standing
  | .idle n :: ls, standing => List.replicate n (lineInput standing) ++ expandLines ls standing
  | .sendFrame a c xs :: ls, standing => sendFrameCycles standing a c xs ++ expandLines ls standing
  | .sendSet xs :: ls, standing => sendFrameCycles standing aCmd cSet xs ++ expandLines ls standing
  | .sendUa xs :: ls, standing => sendFrameCycles standing aCmd cUa xs ++ expandLines ls standing

/-- A program queued for the machine: each line's encoding is its `IN` word (R106). -/
def State.queue (s : State wTmr wRetry) (ls : List (StimLine wTmr wRetry)) : State wTmr wRetry :=
  { s with stim := s.stim ++ (expandLines ls []).map fun i => .cycle i.toWord }

end Sys2Proof.Machine
end

