-- ==== Sys2Proof/Machine/Outputs.lean ====
section
/-! DEFINITION. The output ports (spec/10_state.md R49), Moore functions of the state (R17), the state codes they
carry (R34 to R46), and what the host reads from them (spec/43_session.md R236, R237). -/

namespace Sys2Proof.Machine

variable {wTmr wRetry : Nat}

/-- The code of `SESS` (R36). -/
def sessCode : Sess → BitVec 3
  | .closed => 0
  | .openChan => 1
  | .openWait => 2
  | .openAck => 3
  | .opened => 4
  | .closing => 5

/-- The code of `RSTATE` (R39). -/
def rstateCode : RState → BitVec 3
  | .start => 0
  | .flagReceived => 1
  | .addressReceived => 2
  | .controlReceived => 3
  | .checksumOk => 4
  | .done => 5

/-- The code of `TMR_ST` (R46). -/
def tmrCode : TmrSt → BitVec 2
  | .idle => 0
  | .pend => 1
  | .run => 2

/-- The codes of R43, `ProtocolViolation` among them. -/
def namedCode : ErrCode → BitVec 3
  | .none => 0
  | .channelOpenFailed => 1
  | .channelIOFailed => 2
  | .connectionTimeout => 3
  | .protocolViolation => 4

/-- The code of `ERR` (R43). -/
def errCode : Err → BitVec 3
  | .none => namedCode .none
  | .channelOpenFailed => namedCode .channelOpenFailed
  | .channelIOFailed => namedCode .channelIOFailed
  | .connectionTimeout => namedCode .connectionTimeout

/-- The link state, the source's four-valued session state (R37). -/
inductive LinkState where
  | closed
  | opening
  | opened
  | closing
  deriving DecidableEq, Repr

/-- `LinkState(SESS)` (R37). -/
def linkState : Sess → LinkState
  | .closed => .closed
  | .openChan | .openWait | .openAck => .opening
  | .opened => .opened
  | .closing => .closing

/-- The code of the link state (R37). -/
def linkCode : LinkState → BitVec 2
  | .closed => 0
  | .opening => 1
  | .opened => 2
  | .closing => 3

/-- The output ports of R49. -/
structure Outputs (wRetry : Nat := Config.wRetry) where
  txValid      : Bool
  txData       : Byte
  chanOpenReq  : Bool
  chanCloseReq : Bool
  sessState    : BitVec 3
  linkState    : BitVec 2
  errCode      : BitVec 3
  stDone       : Bool
  stAbort      : Bool
  retryCnt     : Retries wRetry
  rxState      : BitVec 3
  frmValid     : Bool
  frmData      : FrameWord
  deriving DecidableEq, Repr

/-- `TxOffer` (spec/00_scope.md R16): the byte on `tx_data`, 0x00 while nothing is sent (R49, R203). -/
def offeredByte (s : Regs wTmr wRetry) : Byte := if s.txb then frameByte s.txf s.txi else 0

/-- The outputs of a state (R49). -/
def outputs (s : Regs wTmr wRetry) : Outputs wRetry :=
  { txValid := s.txb
    txData := offeredByte s
    chanOpenReq := decide (s.sess = .openChan)
    chanCloseReq := decide (s.sess = .closing) && !s.txb
    sessState := sessCode s.sess
    linkState := linkCode (linkState s.sess)
    errCode := errCode s.err
    stDone := s.stDone
    stAbort := s.stAbort
    retryCnt := s.retryCnt
    rxState := rstateCode s.rstate
    frmValid := s.frmV
    frmData := pack40 (buildFrame s.expA s.expC) }

/-- What the host reads of an `open` or a `close` in progress (R236, R237). -/
inductive CallResult where
  | pending
  | succeeded
  | failed (code : Err)
  deriving DecidableEq, Repr

/-- The result of `open` (R236): success is `link_state = Open`, failure is `link_state = Closed` with an error. -/
def openResult (s : Regs wTmr wRetry) : CallResult :=
  match linkState s.sess with
  | .opened => .succeeded
  | .closed => if s.err = .none then .pending else .failed s.err
  | .opening | .closing => .pending

/-- The result of `close` (R237), read after CLOSE was accepted: `link_state = Closed`, with or without an
error. -/
def closeResult (s : Regs wTmr wRetry) : CallResult :=
  match linkState s.sess with
  | .closed => if s.err = .none then .succeeded else .failed s.err
  | .opening | .opened | .closing => .pending

end Sys2Proof.Machine
end

