-- ==== Sys2Proof/Machine/Trace.lean ====
section
/-! DEFINITION. What runs of several bytes or cycles show: the states and frames of the parser fed a byte stream
(spec/41_parser.md section 2), and the bytes the channel takes (spec/20_memory.md R79). -/

namespace Sys2Proof.Machine

variable {wTmr wRetry : Nat}

/-- The recognition states after each byte of a stream (R159: each byte is consumed once). -/
def parseStates : List Byte → RState → Byte → Byte → List RState
  | [], _, _, _ => []
  | b :: bs, st, ea, ec =>
    let nx := (parseStep st b ea ec).1
    nx :: parseStates bs nx ea ec

/-- The recognition state after a whole stream. -/
def parseEnd (bs : List Byte) (st : RState) (ea ec : Byte) : RState :=
  bs.foldl (fun st b => (parseStep st b ea ec).1) st

/-- The frames that `ParseStep` emits along a stream, one for each Done event (R149). -/
def parseFrames : List Byte → RState → Byte → Byte → List Frame
  | [], _, _, _ => []
  | b :: bs, st, ea, ec =>
    let p := parseStep st b ea ec
    p.2.toList ++ parseFrames bs p.1 ea ec

/-- A pair is recognisable when none of address, control and BCC is FLAG (R156). -/
def recognisable (a c : Byte) : Bool := a != flag && c != flag && bcc a c != flag

/-- The bytes the channel takes along a run, in order. -/
def takenBytes : List (Input wTmr wRetry) → Regs wTmr wRetry → List Byte
  | [], _ => []
  | i :: ins, r => (takenByte r i).toList ++ takenBytes ins (cycle i r)

end Sys2Proof.Machine
end

