-- ==== Sys2Proof/Safety.lean ====
section
/-! DEFINITION. What claims are stated in: the reachable-state invariants of spec/10_state.md R50 and the outcomes that go
on. -/

namespace Sys2Proof.Machine

variable {wTmr wRetry : Nat}

/-- The outcome that goes on with the registers `r` and changes nothing else. -/
abbrev State.goesOn (s : State wTmr wRetry) (r : Regs wTmr wRetry) : Outcome wTmr wRetry :=
  .next { s with regs := r }

/-- The outcome that returns the value `x` and changes nothing else. -/
abbrev State.returns (s : State wTmr wRetry) (x : Result) : Outcome wTmr wRetry :=
  .next { s with result := x }

/-- The invariants of R50, by their numbers. `inv1` is about the codes of the values; INV12 is stated with
its first case, the state before the first accepted OPEN. The last two fields are not in R50's list: `fresh` makes
the conjunction one that every step keeps, and `sender` is the sentence of spec/40_codec.md R126 that a transmitter
sends SET and a receiver UA. -/
structure Regs.Inv (s : Regs wTmr wRetry) : Prop where
  inv1  : (sessCode s.sess).toNat ≤ 5 ∧ (rstateCode s.rstate).toNat ≤ 5 ∧ (tmrCode s.tmrSt).toNat ≤ 2 ∧
    (errCode s.err).toNat ≤ 3
  inv2  : s.txb = false → s.txi = 0
  inv3  : s.tmrSt ≠ .idle → s.sess = .openWait ∧ s.role = .transmitter
  inv4  : s.tmrSt = .run → s.txb = false ∧ s.tmrCnt.toNat ≤ s.timeout.toNat
  inv5  : s.sess = .openWait → s.role = .transmitter → s.retryCnt.toNat < max s.maxr.toNat 1
  inv6  : s.sess ≠ .closed → s.sess ≠ .closing → s.err = .none
  inv7  : s.frmV = true → s.rstate = .done
  inv8  : s.sess = .openAck → s.role = .receiver
  inv9  : s.sess = .closed ∨ s.sess = .openChan → s.txb = false
  inv10 : s.txb = true → s.txf = setFrame ∨ s.txf = uaFrame
  inv11 : s.stAbort = true → s.err = .connectionTimeout
  inv12 : (s.sess = .closed ∧ s.expA = 0 ∧ s.expC = 0) ∨
    (s.expA = 0x03 ∧ s.expC = if s.role = .transmitter then 0x07 else 0x03)
  inv13 : s.sess = .openWait → s.role = .transmitter → s.tmrSt ≠ .idle ∧ s.stDone = false
  inv14 : s.sess = .openWait → s.role = .receiver →
    s.tmrSt = .idle ∧ s.txb = false ∧ s.stDone = false
  fresh : s.sess = .openChan → s.retryCnt = 0 ∧ s.stDone = false
  sender : s.txb = true → s.txf = if s.role = .transmitter then setFrame else uaFrame

end Sys2Proof.Machine
end

