-- ==== Sys2Proof/Certificates/Slice0/Obligations.lean ====
section
/-! DEFINITION. The statements for the provers. Each is made from the numbered rules of spec/ that its docstring
names. `Sys2Proof.Claims` holds the few expressions that several statements share, written from the rules and not from
the model's own operations. -/

open Sys2Proof Sys2Proof.Machine

namespace Sys2Proof.Claims

/-- `txdone` (R174, R201): the last byte of the frame is accepted in this cycle. -/
abbrev lastTaken (inp : Input) (r : Regs) : Prop := r.txb = true ∧ inp.txReady = true ∧ r.txi = 4

/-- The command `code` is presented (R100). -/
abbrev presents (inp : Input) (code : BitVec 3) : Prop := inp.cmdValid = true ∧ inp.cmdOp = code

/-- A reserved command is presented (R102): 011, 100, 101, 110 or 111. -/
abbrev reserved (inp : Input) : Prop := inp.cmdValid = true ∧ 3 ≤ inp.cmdOp.toNat

/-- The byte received in this cycle is the final confirming flag (R146). -/
abbrev confirms (inp : Input) (r : Regs) : Prop :=
  inp.rxValid = true ∧ r.rstate = .checksumOk ∧ inp.rxData = 0x7E

/-- An event above START_COUNT and TIMER_TICK in the priority of R188. -/
abbrev higher (inp : Input) (r : Regs) : Prop := r.sess = .openWait ∧ (inp.chanErr = true ∨ confirms inp r)

/-- What every cycle does before the controller acts: `FRM_V <- 0` and TX_STEP (R201, R235). -/
def moved (inp : Input) (r : Regs) : Regs :=
  { r with
    frmV := false
    txb := if lastTaken inp r then false else r.txb
    txi := if lastTaken inp r then 0 else if r.txb = true ∧ inp.txReady = true then r.txi + 1 else r.txi }

/-- The registers after `ErrorExit(code)` (R254), `r` being the state at the start and `q` what was written. -/
def failed (code : Err) (r q : Regs) : Regs :=
  { q with
    err := if r.err = .none then code else q.err
    tmrSt := .idle, tmrCnt := 0, txb := false, txi := 0, sess := .closing }

/-- The registers after `Expire()` (R178 to R181). `RETRY_CNT + 1` fits in every reachable state (R186); where it
does not, the counter holds the free value. -/
def expired (r q : Regs) : Regs :=
  if r.maxr.toNat ≤ r.retryCnt.toNat + 1 then
    failed .connectionTimeout r
      { q with
        retryCnt := if r.retryCnt.toNat + 1 < 2 ^ Config.wRetry then r.retryCnt + 1
          else Config.retryPastTop r.maxr
        stAbort := true }
  else
    { q with
      retryCnt := r.retryCnt + 1
      txf := { opening := 0x7E, addr := 0x03, ctrl := 0x03, bcc := 0x00, closing := 0x7E }
      txi := 0, txb := true, tmrSt := .pend, tmrCnt := 0 }

/-- The registers after an accepted OPEN (R221). -/
def openedWith (role : Role) (timeout : Ticks) (maxRetry : Retries) (q : Regs) : Regs :=
  { q with
    role := role, timeout := timeout, maxr := maxRetry, err := .none, stDone := false, stAbort := false,
    retryCnt := 0, rstate := .start, expA := 0x03,
    expC := if role = .transmitter then 0x07 else 0x03
    tmrSt := .idle, tmrCnt := 0, sess := .openChan }

/-- The registers after a valid UA at a transmitter (R226), or a valid SET at a receiver (R225). -/
def accepted (r q : Regs) : Regs :=
  if r.role = .transmitter then
    { q with rstate := .done, frmV := true, stDone := true, tmrSt := .idle, tmrCnt := 0, sess := .opened }
  else
    { q with
      rstate := .done, frmV := true, stDone := true, sess := .openAck
      txf := { opening := 0x7E, addr := 0x03, ctrl := 0x07, bcc := 0x04, closing := 0x7E }
      txi := 0, txb := true }

/-- The registers after `chan_open_ack` in `OPEN_CHAN` (R222). -/
def channelOpened (r q : Regs) : Regs :=
  if r.role = .transmitter then
    { q with
      sess := .openWait, tmrSt := .pend, tmrCnt := 0, txi := 0, txb := true
      txf := { opening := 0x7E, addr := 0x03, ctrl := 0x03, bcc := 0x00, closing := 0x7E } }
  else { q with sess := .openWait }

/-- The five states of a frame recognised from the start. -/
def fiveStates : List RState :=
  [.flagReceived, .addressReceived, .controlReceived, .checksumOk, .done]

/-- A transmitter whose channel has just opened: SET loaded, timer armed, no expiry counted (R222). -/
def freshTransmitter (timeout : Ticks) (maxRetry : Retries) : Regs :=
  runCycles [.onlyOpen .transmitter timeout maxRetry, .onlyOpenAck] Regs.reset

/-- A receiver whose channel has just opened (R222). -/
def freshReceiver (timeout : Ticks) (maxRetry : Retries) : Regs :=
  runCycles [.onlyOpen .receiver timeout maxRetry, .onlyOpenAck] Regs.reset

end Sys2Proof.Claims

open Sys2Proof.Claims

/-! ## Running and decoding -/

/-- A step runs what the next encoded object decodes to. The queue and the free words of an empty queue are the
model's choice (log 5, log 6). -/
def Obligations.StepRunsTheDecodedItem : Prop :=
  ∀ s : State,
    (∀ item rest i, s.stim = item :: rest → decode item = .ok i →
      step s = exec i { s with stim := rest }) ∧
    (∀ item rest e, s.stim = item :: rest → decode item = .error e →
      step s = .refused (.undecodable e)) ∧
    (s.stim = [] → step s = match decode (.cycle (Config.freeInput s.draws)) with
      | .ok i => exec i { s with draws := s.draws + 1 }
      | .error e => .refused (.undecodable e))

/-- Decoding the encoding of a well-formed instruction gives it back, with every operand (R91 to R93, R100, R103,
R104). -/
def Obligations.DecodeInvertsEncode : Prop :=
  ∀ (i : Instr) (item : Item), i.wellFormed = true → encode i = some item → decode item = .ok i

/-- Every object that decodes gives a well-formed instruction whose encoding is that object: each word has one
meaning (R91 to R93, R100, R103, R104). -/
def Obligations.EncodeInvertsDecode : Prop :=
  ∀ (item : Item) (i : Instr), decode item = .ok i → i.wellFormed = true ∧ encode i = some item

/-- Where the ports stand in `IN`, at every width: `cfg_timeout` and `cfg_max_retry` grow or shrink and move up with
`W_TMR` and `W_RETRY`, and at the default widths the vector has 48 bits. A vector with a reserved bit set is refused
(R103). -/
def Obligations.InputVectorLayout : Prop :=
  Config.inWidth = 48 ∧
  (∀ (wTmr wRetry : Nat) (i : Input wTmr wRetry),
    i.toWord.getLsbD 0 = i.rst ∧ i.toWord.getLsbD 1 = i.cmdValid ∧
    i.toWord.extractLsb' 2 3 = i.cmdOp ∧
    i.toWord.getLsbD 5 = decide (i.cfgRole = .receiver) ∧
    i.toWord.getLsbD 6 = i.rxValid ∧ i.toWord.extractLsb' 7 8 = i.rxData ∧
    i.toWord.getLsbD 15 = i.tick ∧ i.toWord.getLsbD 16 = i.txReady ∧
    i.toWord.getLsbD 17 = i.chanOpenAck ∧ i.toWord.getLsbD 18 = i.chanOpenFail ∧
    i.toWord.getLsbD 19 = i.chanCloseAck ∧ i.toWord.getLsbD 20 = i.chanErr ∧
    i.toWord.extractLsb' 21 3 = 0#3 ∧
    i.toWord.extractLsb' 24 wTmr = i.cfgTimeout ∧
    i.toWord.extractLsb' (24 + wTmr) wRetry = i.cfgMaxRetry) ∧
  (∀ v : InWord, v.extractLsb' 21 3 ≠ 0#3 → decode (.cycle v) = .error .reservedInputBits) ∧
  (∀ (wTmr wRetry : Nat) (v : InWord wTmr wRetry), v.extractLsb' 21 3 = 0#3 →
    (Input.ofWord v).toWord = v)

/-- A few words of the spec's own list decode to what they stand for (R103, R93). -/
def Obligations.ExampleWordsDecode : Prop :=
  decode (.cycle 0x030003000006) = .ok (.openCmd .transmitter 3 3) ∧
  decode (.cycle 0x000000000026) = .ok (.openCmd .receiver 0 0) ∧
  decode (.cycle 0x000000003F40) = .ok (.rxByte 0x7E) ∧
  decode (.cycle 0x0000000001C0) = .ok (.rxByte 0x03) ∧
  decode (.cycle 0x00000000000A) = .ok .closeCmd ∧
  decode (.cycle 0x000000100000) = .ok .chanErr ∧
  decode (.frame 0x7E0303007E) = .ok .setFrame ∧
  decode (.frame 0x7E0307047E) = .ok .uaFrame ∧
  decode (.frame 0x7E0206047E) = .ok (.ctrlFrame 0x02 0x06)

/-! ## The codec -/

/-- BCC is the bitwise exclusive OR of its two bytes, with the corner cases of R121. -/
def Obligations.BccIsBitwiseXor : Prop :=
  ∀ (s : State) (a c : Byte),
    exec (.bcc a c) s = s.returns (.byte (a ^^^ c)) ∧
    (∀ i, (bcc a c).getLsbD i = (a.getLsbD i ^^ c.getLsbD i)) ∧
    bcc a a = 0x00 ∧ bcc a 0x00 = a ∧ bcc a 0xFF = ~~~a ∧ bcc a c = bcc c a ∧ bcc 0x03 0x07 = 0x04

/-- BUILD_FRAME, BCC_CHECK, DECODE_FRAME and CLASSIFY complete from every state with their values (R120, R122, R123,
R124). -/
def Obligations.CodecFunctionsReturnTheirValues : Prop :=
  ∀ (s : State) (f : Frame) (a c k : Byte),
    exec (.buildFrame a c) s = s.returns
      (.frame { opening := 0x7E, addr := a, ctrl := c, bcc := a ^^^ c, closing := 0x7E }) ∧
    exec (.bccCheck a c k) s = s.returns (.bool (decide (k = a ^^^ c))) ∧
    exec (.decodeFrame f) s = s.returns
      (.pair (if f.opening = 0x7E ∧ f.closing = 0x7E ∧ f.bcc = f.addr ^^^ f.ctrl then
          some (f.addr, f.ctrl)
        else none)) ∧
    exec (.classify a c) s = s.returns
      (.frameType
        (if a = 0x03 ∧ c = 0x03 then .set else if a = 0x03 ∧ c = 0x07 then .ua else .untyped))

/-- PACK40 puts byte 0 in bits [39:32]; it and UNPACK40 are inverses (R125). -/
def Obligations.PackAndUnpackAreInverses : Prop :=
  (∀ (s : State) (f : Frame) (v : FrameWord),
    exec (.pack40 (.pack f)) s = s.returns
      (.word40 (f.opening ++ f.addr ++ f.ctrl ++ f.bcc ++ f.closing)) ∧
    exec (.pack40 (.unpack v)) s = s.returns
      (.frame { opening := v.extractLsb' 32 8, addr := v.extractLsb' 24 8, ctrl := v.extractLsb' 16 8,
                bcc := v.extractLsb' 8 8, closing := v.extractLsb' 0 8 }) ∧
    unpack40 (pack40 f) = f ∧ pack40 (unpack40 v) = v) ∧
  pack40 (buildFrame 0x03 0x03) = 0x7E0303007E

/-- The laws L1 to L5 of R127: the whole-frame validator, the builder and the byte parser agree, and what the XOR
check detects. -/
def Obligations.CodecAndParserAgree : Prop :=
  (∀ a c, decodeFrame (buildFrame a c) = some (a, c)) ∧
  (∀ a c, bccCheck a c (bcc a c) = true) ∧
  (∀ f a c, decodeFrame f = some (a, c) → f = buildFrame a c) ∧
  (∀ f a c,
    (parseEnd (frameBytes f) .start a c = .done ∧
      (parseFrames (frameBytes f) .start a c).length = 1) ↔
    (decodeFrame f = some (a, c) ∧ a ≠ 0x7E ∧ c ≠ 0x7E ∧ a ^^^ c ≠ 0x7E)) ∧
  (∀ f, decodeFrame f ≠ none → ∀ b,
    (b ≠ f.addr → decodeFrame { f with addr := b } = none) ∧
    (b ≠ f.ctrl → decodeFrame { f with ctrl := b } = none) ∧
    (b ≠ f.bcc → decodeFrame { f with bcc := b } = none)) ∧
  (∀ (f : Frame) (i : Fin 8), decodeFrame f ≠ none →
    let m : Byte := 1#8 <<< i.val
    let g : Frame := { f with addr := f.addr ^^^ m, ctrl := f.ctrl ^^^ m }
    decodeFrame g = some (g.addr, g.ctrl) ∧ g.addr ≠ f.addr ∧ g.ctrl ≠ f.ctrl ∧
    ∀ ea ec, (g.addr, g.ctrl) ≠ (ea, ec) → parseEnd (frameBytes g) .start ea ec ≠ .done)

/-! ## The parser -/

/-- The rows Start to ChecksumOk of the transition table (R142 to R146), for every byte and expected pair. `ChecksumOk`
is the only row in which a FLAG byte does not lead to `FlagReceived` (R146). -/
def Obligations.ParserRowsFollowTheTable : Prop :=
  ∀ (s : State) (b ea ec : Byte),
    exec (.parseStep .start b ea ec) s = s.returns
      (.parsed (if b = 0x7E then .flagReceived else .start) none) ∧
    exec (.parseStep .flagReceived b ea ec) s = s.returns
      (.parsed (if b = 0x7E then .flagReceived else if b = ea then .addressReceived else .start) none) ∧
    exec (.parseStep .addressReceived b ea ec) s = s.returns
      (.parsed (if b = 0x7E then .flagReceived else if b = ec then .controlReceived else .start) none) ∧
    exec (.parseStep .controlReceived b ea ec) s = s.returns
      (.parsed (if b = 0x7E then .flagReceived else if b = ea ^^^ ec then .checksumOk else .start) none) ∧
    exec (.parseStep .checksumOk b ea ec) s = s.returns
      (if b = 0x7E then
        .parsed .done
          (some { opening := 0x7E, addr := ea, ctrl := ec, bcc := ea ^^^ ec, closing := 0x7E })
       else .parsed .start none) ∧
    ∀ st, st ≠ .checksumOk →
      exec (.parseStep st 0x7E ea ec) s = s.returns (.parsed .flagReceived none)

/-- A byte in `Done` is processed exactly as in `Start` (R147), and a FLAG byte leads to `FlagReceived` in every state
but `ChecksumOk`, whatever the expected bytes (R148). -/
def Obligations.DoneActsAsStartAndFlagComesFirst : Prop :=
  ∀ (s : State) (b ea ec : Byte),
    exec (.parseStep .done b ea ec) s = exec (.parseStep .start b ea ec) s ∧
    exec (.parseStep .done b ea ec) s = s.returns
      (.parsed (if b = 0x7E then .flagReceived else .start) none) ∧
    ∀ st, st ≠ .checksumOk → parseStep st 0x7E ea ec = (.flagReceived, none)

/-- The verified frame comes out exactly on entering `Done`, and it is the five bytes just consumed (R149). -/
def Obligations.VerifiedFrameIsWhatWasReceived : Prop :=
  (∀ st b ea ec, (parseStep st b ea ec).2 =
    if (parseStep st b ea ec).1 = .done then some (buildFrame ea ec) else none) ∧
  (∀ (bs : List Byte) (ea ec : Byte), parseEnd bs .start ea ec = .done →
    ∃ before, bs = before ++ [0x7E, ea, ec, ea ^^^ ec, 0x7E])

/-- One changed byte in a recognisable frame, SET and UA among them: the parser never enters `Done`, and ends in
`FlagReceived`, or in `Start` when the closing FLAG is the changed byte (R155). -/
def Obligations.CorruptedFrameIsNeverVerified : Prop :=
  ∀ (a c : Byte), a ≠ 0x7E → c ≠ 0x7E → a ^^^ c ≠ 0x7E →
    ∀ (i : Fin 5) (b : Byte), b ≠ frameByte (buildFrame a c) i →
      let bs := (frameBytes (buildFrame a c)).set i.val b
      (∀ st ∈ parseStates bs .start a c, st ≠ .done) ∧
      parseEnd bs .start a c = if i = 4 then .start else .flagReceived

/-- Leading noise without a FLAG is skipped and the frame after it verified; two frames in a row give two Done events
(R157, R158), for every recognisable pair. -/
def Obligations.NoiseAndBackToBackFrames : Prop :=
  ∀ (a c : Byte), a ≠ 0x7E → c ≠ 0x7E → a ^^^ c ≠ 0x7E →
    (∀ noise : List Byte, (∀ b ∈ noise, b ≠ 0x7E) →
      parseStates (noise ++ frameBytes (buildFrame a c)) .start a c
        = List.replicate noise.length .start ++ fiveStates ∧
      parseFrames (noise ++ frameBytes (buildFrame a c)) .start a c = [buildFrame a c]) ∧
    parseStates (frameBytes (buildFrame a c) ++ frameBytes (buildFrame a c)) .start a c
      = fiveStates ++ fiveStates ∧
    parseFrames (frameBytes (buildFrame a c) ++ frameBytes (buildFrame a c)) .start a c
      = [buildFrame a c, buildFrame a c]

/-- A pair with FLAG as its address, control or BCC is never verified (R156). -/
def Obligations.UnrecognisablePairIsNeverVerified : Prop :=
  ∀ (a c : Byte), (a = 0x7E ∨ c = 0x7E ∨ a ^^^ c = 0x7E) →
    ∀ st ∈ parseStates (frameBytes (buildFrame a c)) .start a c, st ≠ .done

/-- RX_BYTE in `OPEN_WAIT` (R152, R160, R224 to R226): a byte that is no confirming flag changes `RSTATE` alone; the
confirming flag opens the link of a transmitter and starts a receiver's UA. -/
def Obligations.ReceivedByteInOpenWait : Prop :=
  ∀ (s : State) (b : Byte), s.regs.sess = .openWait →
    exec (.rxByte b) s = s.goesOn
      (if s.regs.rstate = .checksumOk ∧ b = 0x7E then accepted s.regs s.regs
       else { s.regs with
         frmV := false
         rstate := (parseStep s.regs.rstate b s.regs.expA s.regs.expC).1 })

/-- A byte that arrives outside `OPEN_WAIT`, or together with `chan_err`, is dropped without effect (R163). -/
def Obligations.OtherReceivedBytesAreDropped : Prop :=
  (∀ (s : State) (b : Byte), s.regs.sess ≠ .openWait →
    exec (.rxByte b) s = s.goesOn { s.regs with frmV := false }) ∧
  (∀ (inp : Input) (r : Regs) (b : Byte), r.sess ≠ .openWait ∨ inp.chanErr = true →
    cycle { inp with rxValid := true, rxData := b } r = cycle { inp with rxValid := false } r)

/-- The parser's state is written by a consumed byte, by an accepted OPEN and by reset, and by nothing else
(R164, R151). -/
def Obligations.OnlyBytesAndOpenWriteTheParser : Prop :=
  ∀ (inp : Input) (r : Regs), inp.rst = false → ¬ (r.sess = .closed ∧ presents inp 1) →
    (cycle inp r).expA = r.expA ∧ (cycle inp r).expC = r.expC ∧
    (cycle inp r).rstate =
      if inp.rxValid = true ∧ r.sess = .openWait ∧ inp.chanErr = false then
        (parseStep r.rstate inp.rxData r.expA r.expC).1
      else r.rstate

/-- `FRM_V`, and with it `frm_valid`, is 1 in exactly the cycle after a Done event, with `RSTATE = Done` (R41). -/
def Obligations.FrameValidFollowsDoneEvent : Prop :=
  ∀ (inp : Input) (r : Regs),
    ((cycle inp r).frmV = true ↔
      inp.rst = false ∧ r.sess = .openWait ∧ inp.chanErr = false ∧ confirms inp r) ∧
    (outputs (cycle inp r)).frmValid = (cycle inp r).frmV ∧
    ((cycle inp r).frmV = true → (cycle inp r).rstate = .done)

/-- PARSER_RESET (R150) and the PARSE_STEP micro-operation of one cycle (R160, R162). -/
def Obligations.ParserMicroOperations : Prop :=
  ∀ (s : State) (inp : Input),
    exec .parserReset s = s.goesOn { s.regs with rstate := .start } ∧
    exec (.parseStepCycle inp) s = s.goesOn
      (if s.regs.sess = .openWait ∧ inp.rxValid = true ∧ inp.chanErr = false then
        { s.regs with
          rstate := (parseStep s.regs.rstate inp.rxData s.regs.expA s.regs.expC).1
          frmV := decide (s.regs.rstate = .checksumOk ∧ inp.rxData = 0x7E) }
       else { s.regs with frmV := false })

/-! ## The timer -/

/-- TIMER_ARM, TIMER_DISARM, RESEND, TX_LOAD, ACCEPT_SET and ACCEPT_UA (R172, R182, R179, R202, R225, R226): what each
writes, every other register kept. -/
def Obligations.ArmDisarmLoadAndAccept : Prop :=
  ∀ (s : State) (f : Frame),
    exec .timerArm s = s.goesOn { s.regs with tmrSt := .pend, tmrCnt := 0 } ∧
    exec .timerDisarm s = s.goesOn { s.regs with tmrSt := .idle, tmrCnt := 0 } ∧
    exec .resend s = s.goesOn { s.regs with
      txf := { opening := 0x7E, addr := 0x03, ctrl := 0x03, bcc := 0x00, closing := 0x7E }
      txi := 0, txb := true, tmrSt := .pend, tmrCnt := 0 } ∧
    exec (.txLoad f) s = s.goesOn { s.regs with txf := f, txi := 0, txb := true } ∧
    exec .acceptSet s = s.goesOn { s.regs with
      txf := { opening := 0x7E, addr := 0x03, ctrl := 0x07, bcc := 0x04, closing := 0x7E }
      txi := 0, txb := true, sess := .openAck } ∧
    exec .acceptUa s = s.goesOn { s.regs with tmrSt := .idle, tmrCnt := 0, sess := .opened }

/-- START_COUNT (R174): a pending timer starts with `TIMEOUT` ticks in the cycle that takes the frame's last byte, and
the tick of that cycle is not counted. An event of higher priority (R188) comes before it. -/
def Obligations.CountingStartsWhenTheFrameIsTaken : Prop :=
  (∀ (s : State) (inp : Input),
    exec (.startCount inp) s = s.goesOn
      (if s.regs.tmrSt = .pend ∧ lastTaken inp s.regs ∧ ¬ higher inp s.regs then
        { s.regs with tmrSt := .run, tmrCnt := s.regs.timeout }
       else s.regs)) ∧
  (∀ (r : Regs) (inp : Input), r.sess = .openWait → r.role = .transmitter → r.tmrSt = .pend →
    inp.rst = false → inp.chanErr = false → ¬ confirms inp r → lastTaken inp r →
    (cycle inp r).tmrSt = .run ∧ (cycle inp r).tmrCnt = r.timeout)

/-- TIMER_TICK (R175): in a cycle with no event of higher priority (R188) a running timer counts down, and expires on
its last tick. -/
def Obligations.TickCountsDownOrExpires : Prop :=
  ∀ (s : State) (inp : Input),
    (s.regs.tmrSt = .run → inp.tick = true → ¬ higher inp s.regs → 2 ≤ s.regs.tmrCnt.toNat →
      exec (.timerTick inp) s = s.goesOn { s.regs with tmrCnt := s.regs.tmrCnt - 1 }) ∧
    (s.regs.tmrSt = .run → inp.tick = true → ¬ higher inp s.regs → s.regs.tmrCnt.toNat ≤ 1 →
      exec (.timerTick inp) s = s.goesOn (expired s.regs s.regs)) ∧
    (s.regs.tmrSt ≠ .run ∨ inp.tick = false ∨ higher inp s.regs →
      exec (.timerTick inp) s = s.goesOn s.regs)

/-- While the timer is `IDLE` or `PEND`, a tick changes nothing (R177). -/
def Obligations.TickIsIgnoredUnlessRunning : Prop :=
  ∀ (inp : Input) (r : Regs) (t : Bool), r.tmrSt ≠ .run → cycle { inp with tick := t } r = cycle inp r

/-- TIMER_EXPIRE (R178 to R181): the expiry is counted; at the maximum or past it the session fails with
ConnectionTimeout, else SET is sent again and the timer armed. `MAXR = 0` acts as `MAXR = 1`. Where the count does not
fit, which no reachable state shows (R186), the counter is a free value (log 7). -/
def Obligations.ExpiryResendsOrExhausts : Prop :=
  ∀ s : State, exec .timerExpire s = s.goesOn (expired s.regs s.regs)

/-- ERROR_EXIT and EXHAUSTED (R254, R180): the first error is recorded, the timer disarmed, the frame dropped, the
channel asked to close; ProtocolViolation, a code that no rule raises, is refused (log 9). -/
def Obligations.ErrorEntryGoesToClosing : Prop :=
  (∀ (s : State) (code : ErrCode),
    exec (.errorExit code) s = match code with
      | .none => s.goesOn (failed .none s.regs s.regs)
      | .channelOpenFailed => s.goesOn (failed .channelOpenFailed s.regs s.regs)
      | .channelIOFailed => s.goesOn (failed .channelIOFailed s.regs s.regs)
      | .connectionTimeout => s.goesOn (failed .connectionTimeout s.regs s.regs)
      | .protocolViolation => .refused .protocolViolationRaised) ∧
  (∀ s : State, exec .exhausted s = s.goesOn
    (failed .connectionTimeout s.regs { s.regs with stAbort := true })) ∧
  ∀ (code : Err) (r : Regs), (outputs (failed code r r)).chanCloseReq = true

/-- An expiry never touches the parser (R183): what the parser holds after a cycle, and every register an expiry does
not write, is the same with and without a tick. -/
def Obligations.ExpiryNeverTouchesTheParser : Prop :=
  ∀ (inp : Input) (r : Regs),
    let n := cycle { inp with tick := true } r
    let m := cycle { inp with tick := false } r
    n.rstate = m.rstate ∧ n.expA = m.expA ∧ n.expC = m.expC ∧ n.frmV = m.frmV ∧ n.stDone = m.stDone ∧
    n.role = m.role ∧ n.timeout = m.timeout ∧ n.maxr = m.maxr

/-- TICK in every state (R175, R177, R178). -/
def Obligations.TickEvent : Prop :=
  ∀ s : State,
    exec .tick s = s.goesOn
      (if s.regs.sess = .openWait ∧ s.regs.role = .transmitter ∧ s.regs.tmrSt = .run then
        if 2 ≤ s.regs.tmrCnt.toNat then
          { s.regs with frmV := false, tmrCnt := s.regs.tmrCnt - 1 }
        else expired s.regs { s.regs with frmV := false }
       else { s.regs with frmV := false })

/-- The timer counts exactly `max(TIMEOUT, 1)` ticks before an expiry (R176). The premise on `RETRY_CNT` is INV5 of
R50. -/
def Obligations.TimerCountsMaxTimeoutOneTicks : Prop :=
  ∀ r : Regs, r.sess = .openWait → r.role = .transmitter → r.tmrSt = .run → r.tmrCnt = r.timeout →
    r.retryCnt.toNat < max r.maxr.toNat 1 →
    (∀ k, k < max r.timeout.toNat 1 →
      (runCycles (List.replicate k .onlyTick) r).tmrSt = .run ∧
      (runCycles (List.replicate k .onlyTick) r).retryCnt = r.retryCnt) ∧
    (runCycles (List.replicate (max r.timeout.toNat 1) .onlyTick) r).tmrSt ≠ .run ∧
    (runCycles (List.replicate (max r.timeout.toNat 1) .onlyTick) r).retryCnt.toNat
      = r.retryCnt.toNat + 1

/-- TIMER_STEP (R190) and TX_STEP (R201), which returns `txdone`. -/
def Obligations.TimerStepAndTxStep : Prop :=
  ∀ (s : State) (inp : Input) (done : Bool),
    exec (.timerStep inp done) s = s.goesOn
      (if s.regs.tmrSt = .pend ∧ done = true then
        { s.regs with tmrSt := .run, tmrCnt := s.regs.timeout }
       else if s.regs.tmrSt = .run ∧ inp.tick = true then
         if s.regs.tmrCnt.toNat ≤ 1 then expired s.regs s.regs
         else { s.regs with tmrCnt := s.regs.tmrCnt - 1 }
       else s.regs) ∧
    exec (.txStep inp) s = .next { s with
      regs := { moved inp s.regs with frmV := s.regs.frmV }
      result := .bool (decide (lastTaken inp s.regs)) }

/-! ## The link controller -/

/-- A cycle in `OPEN_WAIT` with any inputs (R224), in the priority of R188: `chan_err`, the Done event, the start of
counting, the tick. -/
def Obligations.CycleInOpenWait : Prop :=
  ∀ (s : State) (inp : Input), inp.rst = false → ¬ reserved inp → s.regs.sess = .openWait →
    exec (.step inp) s = s.goesOn (
      let r := s.regs
      let q := moved inp r
      if inp.chanErr = true then failed .channelIOFailed r q
      else if confirms inp r then accepted r q
      else
        let p := { q with
          rstate := if inp.rxValid = true then (parseStep r.rstate inp.rxData r.expA r.expC).1
            else r.rstate }
        if r.role = .receiver then p
        else if r.tmrSt = .pend ∧ lastTaken inp r then { p with tmrSt := .run, tmrCnt := r.timeout }
        else if r.tmrSt = .run ∧ inp.tick = true then
          if r.tmrCnt.toNat ≤ 1 then expired r p else { p with tmrCnt := r.tmrCnt - 1 }
        else p)

/-- A cycle in every other link state with any inputs (R221, R222, R227, R228, R229, R234). -/
def Obligations.CycleInTheOtherStates : Prop :=
  ∀ (s : State) (inp : Input), inp.rst = false → ¬ reserved inp → s.regs.sess ≠ .openWait →
    exec (.step inp) s = s.goesOn (
      let r := s.regs
      let q := moved inp r
      if r.sess = .closed then
        if presents inp 1 then openedWith inp.cfgRole inp.cfgTimeout inp.cfgMaxRetry q else q
      else if r.sess = .openChan then
        if inp.chanOpenFail = true then { q with err := .channelOpenFailed, sess := .closed }
        else if inp.chanOpenAck = true then channelOpened r q
        else q
      else if r.sess = .openAck then
        if inp.chanErr = true then failed .channelIOFailed r q
        else if lastTaken inp r then { q with sess := .opened }
        else q
      else if r.sess = .opened then
        if inp.chanErr = true then failed .channelIOFailed r q
        else if presents inp 2 then { q with sess := .closing }
        else q
      else
        if inp.chanErr = true then
          { q with
            err := if r.err = .none then .channelIOFailed else r.err
            txb := false, txi := 0, sess := .closed }
        else if r.txb = false ∧ inp.chanCloseAck = true then { q with sess := .closed }
        else q)

/-- OPEN (R221): accepted in `CLOSED`, ignored in every other state (R231). CLOSE (R228): accepted in `OPEN`, ignored
in every other state. NOP has no effect of its own (R230). Every cycle ends the `FRM_V` pulse (R41). -/
def Obligations.CommandsInEveryState : Prop :=
  ∀ (s : State) (role : Role) (timeout : Ticks) (maxRetry : Retries),
    exec (.openCmd role timeout maxRetry) s = s.goesOn
      (if s.regs.sess = .closed then
        openedWith role timeout maxRetry { s.regs with frmV := false }
       else { s.regs with frmV := false }) ∧
    exec .closeCmd s = s.goesOn
      (if s.regs.sess = .opened then { s.regs with frmV := false, sess := .closing }
       else { s.regs with frmV := false }) ∧
    exec .nop s = s.goesOn { s.regs with frmV := false }

/-- NOP, or any cycle with `cmd_valid = 0`, has no effect of its own: the other inputs are processed as usual
(R230). -/
def Obligations.NopIsAsNoCommand : Prop :=
  ∀ (inp : Input) (r : Regs) (op : BitVec 3),
    cycle { inp with cmdValid := true, cmdOp := 0 } r = cycle { inp with cmdValid := false } r ∧
    cycle { inp with cmdValid := false, cmdOp := op } r = cycle { inp with cmdValid := false } r

/-- A command not legal in the current state changes no field: OPEN outside `CLOSED`, CLOSE outside `OPEN`, a command
with `rst` (R231). -/
def Obligations.IllegalCommandsAreIgnored : Prop :=
  ∀ (inp : Input) (r : Regs),
    (r.sess ≠ .closed ∨ inp.rst = true →
      cycle { inp with cmdValid := true, cmdOp := 1 } r = cycle { inp with cmdValid := false } r) ∧
    (r.sess ≠ .opened ∨ inp.rst = true →
      cycle { inp with cmdValid := true, cmdOp := 2 } r = cycle { inp with cmdValid := false } r)

/-- WRITE, READ and the codes 101 to 111 are refused, alone and with any other inputs (R233). -/
def Obligations.ReservedCommandsAreRefused : Prop :=
  ∀ s : State,
    exec .writeCmd s = .refused (.reservedCommand 3) ∧
    exec .readCmd s = .refused (.reservedCommand 4) ∧
    exec .rsvd5 s = .refused (.reservedCommand 5) ∧
    exec .rsvd6 s = .refused (.reservedCommand 6) ∧
    exec .rsvd7 s = .refused (.reservedCommand 7) ∧
    ∀ inp : Input, reserved inp → exec (.step inp) s = .refused (.reservedCommand inp.cmdOp)

/-- OPEN_ACK and OPEN_FAIL act in `OPEN_CHAN` only (R222, R294). -/
def Obligations.ChannelOpenAnswers : Prop :=
  ∀ s : State,
    exec .openAck s = s.goesOn
      (if s.regs.sess = .openChan then channelOpened s.regs { s.regs with frmV := false }
       else { s.regs with frmV := false }) ∧
    exec .openFail s = s.goesOn
      (if s.regs.sess = .openChan then
        { s.regs with frmV := false, err := .channelOpenFailed, sess := .closed }
       else { s.regs with frmV := false })

/-- CLOSE_ACK acts in `CLOSING` with an idle transmitter only (R229, R294). CHAN_ERR is the error entry in
`OPEN_WAIT`, `OPEN_ACK` and `OPEN` (R254), ends the close in `CLOSING` (R229), and is ignored in `CLOSED` and
`OPEN_CHAN` (R251). -/
def Obligations.CloseAckAndChannelError : Prop :=
  ∀ s : State,
    exec .closeAck s = s.goesOn
      (if s.regs.sess = .closing ∧ s.regs.txb = false then
        { s.regs with frmV := false, sess := .closed }
       else { s.regs with frmV := false }) ∧
    exec .chanErr s = s.goesOn
      (if s.regs.sess = .closed ∨ s.regs.sess = .openChan then { s.regs with frmV := false }
       else if s.regs.sess = .closing then
         { s.regs with
           frmV := false
           err := if s.regs.err = .none then .channelIOFailed else s.regs.err
           txb := false, txi := 0, sess := .closed }
       else failed .channelIOFailed s.regs { s.regs with frmV := false })

/-- TX_READY in every state (R201, R174, R227): it takes the offered byte, and the last byte of a frame starts the
timer of a waiting transmitter or opens the link of a receiver. With nothing offered it is ignored. -/
def Obligations.TransmitReadyTakesOneByte : Prop :=
  ∀ s : State,
    exec .txReady s = s.goesOn (
      let r := s.regs
      if r.txb = false then { r with frmV := false }
      else if r.txi ≠ 4 then { r with frmV := false, txi := r.txi + 1 }
      else
        let q := { r with frmV := false, txb := false, txi := 0 }
        if r.sess = .openWait ∧ r.role = .transmitter ∧ r.tmrSt = .pend then
          { q with tmrSt := .run, tmrCnt := r.timeout }
        else if r.sess = .openAck then { q with sess := .opened }
        else q)

/-- Answers that nothing asked for are ignored (R294): the channel-open answers outside `OPEN_CHAN`, the close answer
outside `CLOSING` with an idle transmitter, `tx_ready` with nothing offered. -/
def Obligations.UnaskedAnswersAreIgnored : Prop :=
  ∀ (inp : Input) (r : Regs) (x y : Bool),
    (r.sess ≠ .openChan → cycle { inp with chanOpenAck := x, chanOpenFail := y } r = cycle inp r) ∧
    (r.sess ≠ .closing ∨ r.txb = true → cycle { inp with chanCloseAck := x } r = cycle inp r) ∧
    (r.txb = false → cycle { inp with txReady := x } r = cycle inp r)

/-! ## Reset and outputs -/

/-- `rst` replaces the whole state by `ResetState`, from every state and whatever else is presented, a reserved command
aside (R280). The outputs in the cycle after it. -/
def Obligations.ResetReplacesTheWholeState : Prop :=
  ∀ s : State,
    let zero : Regs :=
      { role := .transmitter, timeout := 0, maxr := 0, sess := .closed, err := .none, stDone := false,
        stAbort := false, rstate := .start, expA := 0, expC := 0, frmV := false, tmrSt := .idle,
        tmrCnt := 0, retryCnt := 0, txb := false, txi := 0,
        txf := { opening := 0, addr := 0, ctrl := 0, bcc := 0, closing := 0 } }
    exec .rst s = s.goesOn zero ∧
    (∀ inp : Input, inp.rst = true → ¬ reserved inp → exec (.step inp) s = s.goesOn zero) ∧
    State.reset.regs = zero ∧
    let o := outputs zero
    o.txValid = false ∧ o.chanOpenReq = false ∧ o.chanCloseReq = false ∧ o.linkState = 0 ∧
    o.errCode = 0 ∧ o.rxState = 0 ∧ o.frmValid = false ∧ o.retryCnt = 0

/-- The output ports are these functions of the state (R49, R37, R203). -/
def Obligations.OutputPorts : Prop :=
  ∀ r : Regs,
    let o := outputs r
    o.txValid = r.txb ∧
    o.txData = (if r.txb = true then
      (if r.txi = 0 then r.txf.opening else if r.txi = 1 then r.txf.addr
       else if r.txi = 2 then r.txf.ctrl else if r.txi = 3 then r.txf.bcc else r.txf.closing)
      else 0x00) ∧
    (o.chanOpenReq = true ↔ r.sess = .openChan) ∧
    (o.chanCloseReq = true ↔ r.sess = .closing ∧ r.txb = false) ∧
    o.sessState = (match r.sess with
      | .closed => 0 | .openChan => 1 | .openWait => 2 | .openAck => 3 | .opened => 4 | .closing => 5) ∧
    o.linkState = (match r.sess with
      | .closed => 0 | .openChan | .openWait | .openAck => 1 | .opened => 2 | .closing => 3) ∧
    o.errCode = (match r.err with
      | .none => 0 | .channelOpenFailed => 1 | .channelIOFailed => 2 | .connectionTimeout => 3) ∧
    o.stDone = r.stDone ∧ o.stAbort = r.stAbort ∧ o.retryCnt = r.retryCnt ∧
    o.rxState = (match r.rstate with
      | .start => 0 | .flagReceived => 1 | .addressReceived => 2 | .controlReceived => 3
      | .checksumOk => 4 | .done => 5) ∧
    o.frmValid = r.frmV ∧
    o.frmData = (0x7E#8 ++ r.expA ++ r.expC ++ (r.expA ^^^ r.expC) ++ 0x7E#8 : BitVec 40)

/-! ## Invariants and whole-machine rules -/

/-- The reset state meets the invariants of R50. -/
def Obligations.ResetMeetsTheInvariants : Prop := State.reset.regs.Inv

/-- Every step keeps the invariants of R50, from every state that meets them. -/
def Obligations.StepKeepsTheInvariants : Prop :=
  ∀ s t : State, s.regs.Inv → step s = .next t → t.regs.Inv

/-- Every state that some sequence of inputs reaches from reset meets the invariants (R50). INV12 in full: from an
accepted OPEN on, until a reset, `EXP_A` and `EXP_C` are those of the role. -/
def Obligations.ReachableStatesMeetTheInvariants : Prop :=
  (∀ ins : List Input, (runCycles ins Regs.reset).Inv) ∧
  ∀ (before after : List Input) (inp : Input),
    let r := runCycles (before ++ inp :: after) Regs.reset
    inp.rst = false → (runCycles before Regs.reset).sess = .closed → presents inp 1 →
      (∀ i ∈ after, i.rst = false) →
        r.expA = 0x03 ∧ r.expC = if r.role = .transmitter then 0x07 else 0x03

/-- The core only ever sends SET and UA: a transmitter sends SET, a receiver UA (R126). `takenByte` is the byte on the
line. -/
def Obligations.OnlySetAndUaAreSent : Prop :=
  setFrame = { opening := 0x7E, addr := 0x03, ctrl := 0x03, bcc := 0x00, closing := 0x7E } ∧
  uaFrame = { opening := 0x7E, addr := 0x03, ctrl := 0x07, bcc := 0x04, closing := 0x7E } ∧
  ∀ (ins : List Input) (inp : Input) (b : Byte),
    takenByte (runCycles ins Regs.reset) inp = some b →
      let r := runCycles ins Regs.reset
      b = if r.role = .transmitter then frameByte setFrame r.txi else frameByte uaFrame r.txi

/-- ProtocolViolation is code 4, and `ERR` never holds 4 (R253). The last two clauses, that no state and so no
instruction's result has `err_code` 4, follow from the type `Err` alone, which leaves the code out, whatever `exec`
does (log 14). That ERROR_EXIT refuses the code is the model's choice, deduced from R253 and not a sentence of it
(log 9). -/
def Obligations.ProtocolViolationIsNeverRaised : Prop :=
  namedCode .protocolViolation = 4 ∧
  (∀ s : State, exec (.errorExit .protocolViolation) s = .refused .protocolViolationRaised) ∧
  (∀ r : Regs, (outputs r).errCode ≠ namedCode .protocolViolation) ∧
  ∀ (i : Instr) (s t : State), exec i s = .next t →
    (outputs t.regs).errCode ≠ namedCode .protocolViolation

/-- An error, once recorded, is kept until the next accepted OPEN or reset (R255). -/
def Obligations.FirstErrorIsKept : Prop :=
  ∀ (inp : Input) (r : Regs), r.Inv → r.err ≠ .none → inp.rst = false →
    ¬ (r.sess = .closed ∧ presents inp 1) → (cycle inp r).err = r.err

/-- The configuration is written by an accepted OPEN, from that cycle's inputs, and constant otherwise; in every other
cycle the configuration inputs are ignored (R33). -/
def Obligations.ConfigurationIsWrittenByOpenOnly : Prop :=
  ∀ (inp : Input) (r : Regs), inp.rst = false →
    (r.sess = .closed ∧ presents inp 1 →
      (cycle inp r).role = inp.cfgRole ∧ (cycle inp r).timeout = inp.cfgTimeout ∧
      (cycle inp r).maxr = inp.cfgMaxRetry) ∧
    (¬ (r.sess = .closed ∧ presents inp 1) →
      (cycle inp r).role = r.role ∧ (cycle inp r).timeout = r.timeout ∧ (cycle inp r).maxr = r.maxr ∧
      ∀ role timeout maxRetry,
        cycle { inp with cfgRole := role, cfgTimeout := timeout, cfgMaxRetry := maxRetry } r
          = cycle inp r)

/-- The sticky flags (R44): `ST_DONE` is set by the validated frame in `OPEN_WAIT`, `ST_ABORT` by the expiry that
reaches the maximum; an accepted OPEN and reset clear both, and nothing else clears either. -/
def Obligations.StickyFlags : Prop :=
  ∀ (inp : Input) (r : Regs),
    (inp.rst = true ∨ (r.sess = .closed ∧ presents inp 1) →
      (cycle inp r).stDone = false ∧ (cycle inp r).stAbort = false) ∧
    (inp.rst = false → ¬ (r.sess = .closed ∧ presents inp 1) →
      ((cycle inp r).stDone = true ↔
        r.stDone = true ∨ (r.sess = .openWait ∧ inp.chanErr = false ∧ confirms inp r)) ∧
      ((cycle inp r).stAbort = true ↔
        r.stAbort = true ∨
          (r.sess = .openWait ∧ r.role = .transmitter ∧ inp.chanErr = false ∧ ¬ confirms inp r ∧
            r.tmrSt = .run ∧ inp.tick = true ∧ r.tmrCnt.toNat ≤ 1 ∧
            r.maxr.toNat ≤ r.retryCnt.toNat + 1)))

/-- The retry counter never wraps (R186): from a state that meets the invariants a cycle leaves it, or counts it up by
one, or clears it at an OPEN or reset; and the tick counter never rises above `TIMEOUT`. -/
def Obligations.CountersNeverWrap : Prop :=
  ∀ (inp : Input) (r : Regs), r.Inv →
    ((inp.rst = true ∨ (r.sess = .closed ∧ presents inp 1)) ∧ (cycle inp r).retryCnt = 0) ∨
    (¬ (inp.rst = true ∨ (r.sess = .closed ∧ presents inp 1)) ∧
      ((cycle inp r).retryCnt = r.retryCnt ∨
        ((cycle inp r).retryCnt.toNat = r.retryCnt.toNat + 1 ∧
          (cycle inp r).retryCnt.toNat ≤ max r.maxr.toNat 1)) ∧
      ((cycle inp r).tmrSt = .run → (cycle inp r).tmrCnt.toNat ≤ (cycle inp r).timeout.toNat))

/-- The five open-ended waits (R238): without the event that ends it, or `rst`, the core stays, however long. -/
def Obligations.WaitsAreUnbounded : Prop :=
  ∀ (ins : List Input) (r : Regs), (∀ i ∈ ins, i.rst = false) →
    (r.sess = .openWait → r.role = .receiver → (∀ i ∈ ins, i.chanErr = false) →
      (∀ k < ins.length, (runCycles (ins.take (k + 1)) r).frmV = false) →
      (runCycles ins r).sess = .openWait) ∧
    (r.sess = .openChan → (∀ i ∈ ins, i.chanOpenAck = false ∧ i.chanOpenFail = false) →
      (runCycles ins r).sess = .openChan) ∧
    (r.sess = .closing → (∀ i ∈ ins, i.chanErr = false ∧ i.chanCloseAck = false) →
      (runCycles ins r).sess = .closing) ∧
    (r.Inv → r.txb = true → (∀ i ∈ ins, i.chanErr = false ∧ i.txReady = false) →
      (runCycles ins r).txb = true ∧ (runCycles ins r).txi = r.txi ∧ (runCycles ins r).txf = r.txf) ∧
    (r.sess = .openWait → r.role = .transmitter →
      (∀ i ∈ ins, i.chanErr = false ∧ i.tick = false) →
      (∀ k < ins.length, (runCycles (ins.take (k + 1)) r).frmV = false) →
      (runCycles ins r).sess = .openWait)

/-- The transitions of `SESS` in full (R220): any other pair of state and event leaves it unchanged. -/
def Obligations.LinkStateTransitions : Prop :=
  ∀ (inp : Input) (r : Regs), inp.rst = false →
    (cycle inp r).sess = match r.sess with
      | .closed => if presents inp 1 then .openChan else .closed
      | .openChan => if inp.chanOpenFail = true then .closed
        else if inp.chanOpenAck = true then .openWait else .openChan
      | .openWait => if inp.chanErr = true then .closing
        else if confirms inp r then (if r.role = .transmitter then .opened else .openAck)
        else if r.role = .transmitter ∧ r.tmrSt = .run ∧ inp.tick = true ∧ r.tmrCnt.toNat ≤ 1 ∧
            r.maxr.toNat ≤ r.retryCnt.toNat + 1 then .closing
        else .openWait
      | .openAck => if inp.chanErr = true then .closing
        else if lastTaken inp r then .opened else .openAck
      | .opened => if inp.chanErr = true then .closing
        else if presents inp 2 then .closing else .opened
      | .closing => if inp.chanErr = true then .closed
        else if r.txb = false ∧ inp.chanCloseAck = true then .closed else .closing

/-! ## Frames and sessions -/

/-- A SET that arrives at a waiting receiver, and a UA that arrives at a waiting transmitter, whatever was received
before short of `ChecksumOk` (R93, R225, R226): the receiver has UA loaded, the transmitter's link is open. -/
def Obligations.AwaitedFrameIsAccepted : Prop :=
  ∀ s : State, s.regs.sess = .openWait → s.regs.expA = 0x03 → s.regs.rstate ≠ .checksumOk →
    (s.regs.role = .receiver → s.regs.expC = 0x03 →
      exec .setFrame s = s.goesOn (accepted s.regs s.regs)) ∧
    (s.regs.role = .transmitter → s.regs.expC = 0x07 →
      exec .uaFrame s = s.goesOn (accepted s.regs s.regs))

/-- A frame that is not the awaited one, be it SET, UA or neither, is a mismatch: the parser ends on its closing FLAG
and nothing else changes (R94, R144, R152). Outside `OPEN_WAIT` every frame is dropped (R163). -/
def Obligations.OtherFramesAreMismatchesOrDropped : Prop :=
  ∀ (s : State) (a c : Byte),
    (s.regs.sess = .openWait → s.regs.expA = 0x03 → s.regs.rstate ≠ .checksumOk →
      (s.regs.expC = 0x07 →
        exec .setFrame s = s.goesOn { s.regs with rstate := .flagReceived, frmV := false }) ∧
      (s.regs.expC = 0x03 →
        exec .uaFrame s = s.goesOn { s.regs with rstate := .flagReceived, frmV := false }) ∧
      (s.regs.expC = 0x03 ∨ s.regs.expC = 0x07 → ¬ (a = 0x03 ∧ c = s.regs.expC) →
        exec (.ctrlFrame a c) s = s.goesOn { s.regs with rstate := .flagReceived, frmV := false })) ∧
    (s.regs.sess ≠ .openWait →
      exec .setFrame s = s.goesOn { s.regs with frmV := false } ∧
      exec .uaFrame s = s.goesOn { s.regs with frmV := false } ∧
      exec (.ctrlFrame a c) s = s.goesOn { s.regs with frmV := false })

/-- A frame row is the cycles of SENDSET, SENDUA or SENDFRAME (R107), run one after the other. The items on such a
line go on the first of its cycles only, beside the `.always` items in force, which go on all of them. -/
def Obligations.FramesAreTheirReceiveCycles : Prop :=
  ∀ (s : State) (a c : Byte) (xs standing : List StimItem),
    exec .setFrame s = s.goesOn (runCycles (expandLines [.sendSet []] []) s.regs) ∧
    exec .uaFrame s = s.goesOn (runCycles (expandLines [.sendUa []] []) s.regs) ∧
    exec (.ctrlFrame a c) s = s.goesOn (runCycles (expandLines [.sendFrame a c []] []) s.regs) ∧
    (expandLines [.sendFrame a c []] [] : List Input)
      = [.onlyRx 0x7E, .onlyRx a, .onlyRx c, .onlyRx (a ^^^ c), .onlyRx 0x7E] ∧
    (expandLines [.sendFrame a c xs] standing : List Input)
      = lineInput (standing ++ .rx 0x7E :: xs)
        :: [a, c, a ^^^ c, 0x7E].map (fun b => lineInput (standing ++ [.rx b])) ∧
    expandLines [.sendSet xs] standing = expandLines [.sendFrame 0x03 0x03 xs] standing ∧
    expandLines [.sendUa xs] standing = expandLines [.sendFrame 0x03 0x07 xs] standing

/-- The retry law (R187), for every schedule of ticks, transmit answers, commands and bytes that never confirm a UA:
a transmitter that reaches `CLOSING` without a channel error or reset has failed with ConnectionTimeout after exactly
`N = max(MAXR, 1)` expiries, and the channel has taken exactly `N` SET frames. -/
def Obligations.ExactlyMaxRetrySetsAreSent : Prop :=
  ∀ (timeout : Ticks) (maxRetry : Retries) (ins : List Input),
    (∀ i ∈ ins, i.rst = false ∧ i.chanErr = false ∧ i.chanCloseAck = false) →
    let r0 := freshTransmitter timeout maxRetry
    let r := runCycles ins r0
    r.sess = .closing → r.stDone = false →
      r.err = .connectionTimeout ∧ r.stAbort = true ∧ r.retryCnt.toNat = max maxRetry.toNat 1 ∧
      takenBytes ins r0 = (List.replicate (max maxRetry.toNat 1) [0x7E, 0x03, 0x03, 0x00, 0x7E]).flatten

/-- Retransmission ends (R187, R189): with a ready channel, a tick every cycle and no byte received, the transmitter is
in `CLOSING` with ConnectionTimeout after exactly `N * (5 + max(TIMEOUT, 1))` cycles, and not before. -/
def Obligations.RetransmissionEndsOnTime : Prop :=
  ∀ (timeout : Ticks) (maxRetry : Retries),
    let busy : Input := { (Input.onlyTick : Input) with txReady := true }
    let total := max maxRetry.toNat 1 * (5 + max timeout.toNat 1)
    let run := fun k => runCycles (List.replicate k busy) (freshTransmitter timeout maxRetry)
    (∀ k < total, (run k).sess = .openWait) ∧ (run total).sess = .closing ∧
      (run total).err = .connectionTimeout ∧ (run total).retryCnt.toNat = max maxRetry.toNat 1

/-- Two cores open a link (R239), for every configuration: the bytes that a transmitter's channel takes, delivered to a
receiver, make it send a UA whose bytes, delivered back before any tick, open both. -/
def Obligations.TwoCoresOpenALink : Prop :=
  ∀ (timeout timeout' : Ticks) (maxRetry maxRetry' : Retries),
    let ready := List.replicate 5 Input.onlyTxReady
    let t0 := freshTransmitter timeout maxRetry
    let t1 := runCycles ready t0
    let r0 := freshReceiver timeout' maxRetry'
    let r1 := runCycles (rxCycles (takenBytes ready t0)) r0
    let r2 := runCycles ready r1
    let t2 := runCycles (rxCycles (takenBytes ready r1)) t1
    r2.sess = .opened ∧ r2.err = .none ∧ r2.stDone = true ∧
    t2.sess = .opened ∧ t2.err = .none ∧ t2.stDone = true ∧ t2.retryCnt = 0 ∧ t2.tmrSt = .idle

/-! ## Every width -/

/-- `Step` keeps the invariants of R50 at every width of the timer and the retry counter (R10), from every state that
meets them. -/
def Obligations.CycleKeepsTheInvariantsAtEveryWidth : Prop :=
  ∀ (wTmr wRetry : Nat) (inp : Input wTmr wRetry) (r : Regs wTmr wRetry), r.Inv → (cycle inp r).Inv
end

