-- ==== Sys2Proof/Laws/State.lean ====
section
/-! SUPPORT. One lemma per field per update of the registers, true by unfolding, so that no later proof unfolds a
record update. -/

namespace Sys2Proof.Laws

open Sys2Proof.Machine

variable {wTmr wRetry : Nat}

/-! `armTimer` -/

@[simp] theorem armTimer_role (n : Regs wTmr wRetry) :
    (armTimer n).role = n.role := rfl
@[simp] theorem armTimer_timeout (n : Regs wTmr wRetry) :
    (armTimer n).timeout = n.timeout := rfl
@[simp] theorem armTimer_maxr (n : Regs wTmr wRetry) :
    (armTimer n).maxr = n.maxr := rfl
@[simp] theorem armTimer_sess (n : Regs wTmr wRetry) :
    (armTimer n).sess = n.sess := rfl
@[simp] theorem armTimer_err (n : Regs wTmr wRetry) :
    (armTimer n).err = n.err := rfl
@[simp] theorem armTimer_stDone (n : Regs wTmr wRetry) :
    (armTimer n).stDone = n.stDone := rfl
@[simp] theorem armTimer_stAbort (n : Regs wTmr wRetry) :
    (armTimer n).stAbort = n.stAbort := rfl
@[simp] theorem armTimer_rstate (n : Regs wTmr wRetry) :
    (armTimer n).rstate = n.rstate := rfl
@[simp] theorem armTimer_expA (n : Regs wTmr wRetry) :
    (armTimer n).expA = n.expA := rfl
@[simp] theorem armTimer_expC (n : Regs wTmr wRetry) :
    (armTimer n).expC = n.expC := rfl
@[simp] theorem armTimer_frmV (n : Regs wTmr wRetry) :
    (armTimer n).frmV = n.frmV := rfl
@[simp] theorem armTimer_tmrSt (n : Regs wTmr wRetry) :
    (armTimer n).tmrSt = .pend := rfl
@[simp] theorem armTimer_tmrCnt (n : Regs wTmr wRetry) :
    (armTimer n).tmrCnt = 0 := rfl
@[simp] theorem armTimer_retryCnt (n : Regs wTmr wRetry) :
    (armTimer n).retryCnt = n.retryCnt := rfl
@[simp] theorem armTimer_txb (n : Regs wTmr wRetry) :
    (armTimer n).txb = n.txb := rfl
@[simp] theorem armTimer_txi (n : Regs wTmr wRetry) :
    (armTimer n).txi = n.txi := rfl
@[simp] theorem armTimer_txf (n : Regs wTmr wRetry) :
    (armTimer n).txf = n.txf := rfl

/-! `disarmTimer` -/

@[simp] theorem disarmTimer_role (n : Regs wTmr wRetry) :
    (disarmTimer n).role = n.role := rfl
@[simp] theorem disarmTimer_timeout (n : Regs wTmr wRetry) :
    (disarmTimer n).timeout = n.timeout := rfl
@[simp] theorem disarmTimer_maxr (n : Regs wTmr wRetry) :
    (disarmTimer n).maxr = n.maxr := rfl
@[simp] theorem disarmTimer_sess (n : Regs wTmr wRetry) :
    (disarmTimer n).sess = n.sess := rfl
@[simp] theorem disarmTimer_err (n : Regs wTmr wRetry) :
    (disarmTimer n).err = n.err := rfl
@[simp] theorem disarmTimer_stDone (n : Regs wTmr wRetry) :
    (disarmTimer n).stDone = n.stDone := rfl
@[simp] theorem disarmTimer_stAbort (n : Regs wTmr wRetry) :
    (disarmTimer n).stAbort = n.stAbort := rfl
@[simp] theorem disarmTimer_rstate (n : Regs wTmr wRetry) :
    (disarmTimer n).rstate = n.rstate := rfl
@[simp] theorem disarmTimer_expA (n : Regs wTmr wRetry) :
    (disarmTimer n).expA = n.expA := rfl
@[simp] theorem disarmTimer_expC (n : Regs wTmr wRetry) :
    (disarmTimer n).expC = n.expC := rfl
@[simp] theorem disarmTimer_frmV (n : Regs wTmr wRetry) :
    (disarmTimer n).frmV = n.frmV := rfl
@[simp] theorem disarmTimer_tmrSt (n : Regs wTmr wRetry) :
    (disarmTimer n).tmrSt = .idle := rfl
@[simp] theorem disarmTimer_tmrCnt (n : Regs wTmr wRetry) :
    (disarmTimer n).tmrCnt = 0 := rfl
@[simp] theorem disarmTimer_retryCnt (n : Regs wTmr wRetry) :
    (disarmTimer n).retryCnt = n.retryCnt := rfl
@[simp] theorem disarmTimer_txb (n : Regs wTmr wRetry) :
    (disarmTimer n).txb = n.txb := rfl
@[simp] theorem disarmTimer_txi (n : Regs wTmr wRetry) :
    (disarmTimer n).txi = n.txi := rfl
@[simp] theorem disarmTimer_txf (n : Regs wTmr wRetry) :
    (disarmTimer n).txf = n.txf := rfl

/-! `resetParser` -/

@[simp] theorem resetParser_role (n : Regs wTmr wRetry) :
    (resetParser n).role = n.role := rfl
@[simp] theorem resetParser_timeout (n : Regs wTmr wRetry) :
    (resetParser n).timeout = n.timeout := rfl
@[simp] theorem resetParser_maxr (n : Regs wTmr wRetry) :
    (resetParser n).maxr = n.maxr := rfl
@[simp] theorem resetParser_sess (n : Regs wTmr wRetry) :
    (resetParser n).sess = n.sess := rfl
@[simp] theorem resetParser_err (n : Regs wTmr wRetry) :
    (resetParser n).err = n.err := rfl
@[simp] theorem resetParser_stDone (n : Regs wTmr wRetry) :
    (resetParser n).stDone = n.stDone := rfl
@[simp] theorem resetParser_stAbort (n : Regs wTmr wRetry) :
    (resetParser n).stAbort = n.stAbort := rfl
@[simp] theorem resetParser_rstate (n : Regs wTmr wRetry) :
    (resetParser n).rstate = .start := rfl
@[simp] theorem resetParser_expA (n : Regs wTmr wRetry) :
    (resetParser n).expA = n.expA := rfl
@[simp] theorem resetParser_expC (n : Regs wTmr wRetry) :
    (resetParser n).expC = n.expC := rfl
@[simp] theorem resetParser_frmV (n : Regs wTmr wRetry) :
    (resetParser n).frmV = n.frmV := rfl
@[simp] theorem resetParser_tmrSt (n : Regs wTmr wRetry) :
    (resetParser n).tmrSt = n.tmrSt := rfl
@[simp] theorem resetParser_tmrCnt (n : Regs wTmr wRetry) :
    (resetParser n).tmrCnt = n.tmrCnt := rfl
@[simp] theorem resetParser_retryCnt (n : Regs wTmr wRetry) :
    (resetParser n).retryCnt = n.retryCnt := rfl
@[simp] theorem resetParser_txb (n : Regs wTmr wRetry) :
    (resetParser n).txb = n.txb := rfl
@[simp] theorem resetParser_txi (n : Regs wTmr wRetry) :
    (resetParser n).txi = n.txi := rfl
@[simp] theorem resetParser_txf (n : Regs wTmr wRetry) :
    (resetParser n).txf = n.txf := rfl

/-! `loadFrame` -/

@[simp] theorem loadFrame_role (f : Frame) (n : Regs wTmr wRetry) :
    (loadFrame f n).role = n.role := rfl
@[simp] theorem loadFrame_timeout (f : Frame) (n : Regs wTmr wRetry) :
    (loadFrame f n).timeout = n.timeout := rfl
@[simp] theorem loadFrame_maxr (f : Frame) (n : Regs wTmr wRetry) :
    (loadFrame f n).maxr = n.maxr := rfl
@[simp] theorem loadFrame_sess (f : Frame) (n : Regs wTmr wRetry) :
    (loadFrame f n).sess = n.sess := rfl
@[simp] theorem loadFrame_err (f : Frame) (n : Regs wTmr wRetry) :
    (loadFrame f n).err = n.err := rfl
@[simp] theorem loadFrame_stDone (f : Frame) (n : Regs wTmr wRetry) :
    (loadFrame f n).stDone = n.stDone := rfl
@[simp] theorem loadFrame_stAbort (f : Frame) (n : Regs wTmr wRetry) :
    (loadFrame f n).stAbort = n.stAbort := rfl
@[simp] theorem loadFrame_rstate (f : Frame) (n : Regs wTmr wRetry) :
    (loadFrame f n).rstate = n.rstate := rfl
@[simp] theorem loadFrame_expA (f : Frame) (n : Regs wTmr wRetry) :
    (loadFrame f n).expA = n.expA := rfl
@[simp] theorem loadFrame_expC (f : Frame) (n : Regs wTmr wRetry) :
    (loadFrame f n).expC = n.expC := rfl
@[simp] theorem loadFrame_frmV (f : Frame) (n : Regs wTmr wRetry) :
    (loadFrame f n).frmV = n.frmV := rfl
@[simp] theorem loadFrame_tmrSt (f : Frame) (n : Regs wTmr wRetry) :
    (loadFrame f n).tmrSt = n.tmrSt := rfl
@[simp] theorem loadFrame_tmrCnt (f : Frame) (n : Regs wTmr wRetry) :
    (loadFrame f n).tmrCnt = n.tmrCnt := rfl
@[simp] theorem loadFrame_retryCnt (f : Frame) (n : Regs wTmr wRetry) :
    (loadFrame f n).retryCnt = n.retryCnt := rfl
@[simp] theorem loadFrame_txb (f : Frame) (n : Regs wTmr wRetry) :
    (loadFrame f n).txb = true := rfl
@[simp] theorem loadFrame_txi (f : Frame) (n : Regs wTmr wRetry) :
    (loadFrame f n).txi = 0 := rfl
@[simp] theorem loadFrame_txf (f : Frame) (n : Regs wTmr wRetry) :
    (loadFrame f n).txf = f := rfl

/-! `dropFrame` -/

@[simp] theorem dropFrame_role (n : Regs wTmr wRetry) :
    (dropFrame n).role = n.role := rfl
@[simp] theorem dropFrame_timeout (n : Regs wTmr wRetry) :
    (dropFrame n).timeout = n.timeout := rfl
@[simp] theorem dropFrame_maxr (n : Regs wTmr wRetry) :
    (dropFrame n).maxr = n.maxr := rfl
@[simp] theorem dropFrame_sess (n : Regs wTmr wRetry) :
    (dropFrame n).sess = n.sess := rfl
@[simp] theorem dropFrame_err (n : Regs wTmr wRetry) :
    (dropFrame n).err = n.err := rfl
@[simp] theorem dropFrame_stDone (n : Regs wTmr wRetry) :
    (dropFrame n).stDone = n.stDone := rfl
@[simp] theorem dropFrame_stAbort (n : Regs wTmr wRetry) :
    (dropFrame n).stAbort = n.stAbort := rfl
@[simp] theorem dropFrame_rstate (n : Regs wTmr wRetry) :
    (dropFrame n).rstate = n.rstate := rfl
@[simp] theorem dropFrame_expA (n : Regs wTmr wRetry) :
    (dropFrame n).expA = n.expA := rfl
@[simp] theorem dropFrame_expC (n : Regs wTmr wRetry) :
    (dropFrame n).expC = n.expC := rfl
@[simp] theorem dropFrame_frmV (n : Regs wTmr wRetry) :
    (dropFrame n).frmV = n.frmV := rfl
@[simp] theorem dropFrame_tmrSt (n : Regs wTmr wRetry) :
    (dropFrame n).tmrSt = n.tmrSt := rfl
@[simp] theorem dropFrame_tmrCnt (n : Regs wTmr wRetry) :
    (dropFrame n).tmrCnt = n.tmrCnt := rfl
@[simp] theorem dropFrame_retryCnt (n : Regs wTmr wRetry) :
    (dropFrame n).retryCnt = n.retryCnt := rfl
@[simp] theorem dropFrame_txb (n : Regs wTmr wRetry) :
    (dropFrame n).txb = false := rfl
@[simp] theorem dropFrame_txi (n : Regs wTmr wRetry) :
    (dropFrame n).txi = 0 := rfl
@[simp] theorem dropFrame_txf (n : Regs wTmr wRetry) :
    (dropFrame n).txf = n.txf := rfl

/-! `setDone` -/

@[simp] theorem setDone_role (n : Regs wTmr wRetry) :
    (setDone n).role = n.role := rfl
@[simp] theorem setDone_timeout (n : Regs wTmr wRetry) :
    (setDone n).timeout = n.timeout := rfl
@[simp] theorem setDone_maxr (n : Regs wTmr wRetry) :
    (setDone n).maxr = n.maxr := rfl
@[simp] theorem setDone_sess (n : Regs wTmr wRetry) :
    (setDone n).sess = n.sess := rfl
@[simp] theorem setDone_err (n : Regs wTmr wRetry) :
    (setDone n).err = n.err := rfl
@[simp] theorem setDone_stDone (n : Regs wTmr wRetry) :
    (setDone n).stDone = true := rfl
@[simp] theorem setDone_stAbort (n : Regs wTmr wRetry) :
    (setDone n).stAbort = n.stAbort := rfl
@[simp] theorem setDone_rstate (n : Regs wTmr wRetry) :
    (setDone n).rstate = n.rstate := rfl
@[simp] theorem setDone_expA (n : Regs wTmr wRetry) :
    (setDone n).expA = n.expA := rfl
@[simp] theorem setDone_expC (n : Regs wTmr wRetry) :
    (setDone n).expC = n.expC := rfl
@[simp] theorem setDone_frmV (n : Regs wTmr wRetry) :
    (setDone n).frmV = n.frmV := rfl
@[simp] theorem setDone_tmrSt (n : Regs wTmr wRetry) :
    (setDone n).tmrSt = n.tmrSt := rfl
@[simp] theorem setDone_tmrCnt (n : Regs wTmr wRetry) :
    (setDone n).tmrCnt = n.tmrCnt := rfl
@[simp] theorem setDone_retryCnt (n : Regs wTmr wRetry) :
    (setDone n).retryCnt = n.retryCnt := rfl
@[simp] theorem setDone_txb (n : Regs wTmr wRetry) :
    (setDone n).txb = n.txb := rfl
@[simp] theorem setDone_txi (n : Regs wTmr wRetry) :
    (setDone n).txi = n.txi := rfl
@[simp] theorem setDone_txf (n : Regs wTmr wRetry) :
    (setDone n).txf = n.txf := rfl

/-! `setAbort` -/

@[simp] theorem setAbort_role (n : Regs wTmr wRetry) :
    (setAbort n).role = n.role := rfl
@[simp] theorem setAbort_timeout (n : Regs wTmr wRetry) :
    (setAbort n).timeout = n.timeout := rfl
@[simp] theorem setAbort_maxr (n : Regs wTmr wRetry) :
    (setAbort n).maxr = n.maxr := rfl
@[simp] theorem setAbort_sess (n : Regs wTmr wRetry) :
    (setAbort n).sess = n.sess := rfl
@[simp] theorem setAbort_err (n : Regs wTmr wRetry) :
    (setAbort n).err = n.err := rfl
@[simp] theorem setAbort_stDone (n : Regs wTmr wRetry) :
    (setAbort n).stDone = n.stDone := rfl
@[simp] theorem setAbort_stAbort (n : Regs wTmr wRetry) :
    (setAbort n).stAbort = true := rfl
@[simp] theorem setAbort_rstate (n : Regs wTmr wRetry) :
    (setAbort n).rstate = n.rstate := rfl
@[simp] theorem setAbort_expA (n : Regs wTmr wRetry) :
    (setAbort n).expA = n.expA := rfl
@[simp] theorem setAbort_expC (n : Regs wTmr wRetry) :
    (setAbort n).expC = n.expC := rfl
@[simp] theorem setAbort_frmV (n : Regs wTmr wRetry) :
    (setAbort n).frmV = n.frmV := rfl
@[simp] theorem setAbort_tmrSt (n : Regs wTmr wRetry) :
    (setAbort n).tmrSt = n.tmrSt := rfl
@[simp] theorem setAbort_tmrCnt (n : Regs wTmr wRetry) :
    (setAbort n).tmrCnt = n.tmrCnt := rfl
@[simp] theorem setAbort_retryCnt (n : Regs wTmr wRetry) :
    (setAbort n).retryCnt = n.retryCnt := rfl
@[simp] theorem setAbort_txb (n : Regs wTmr wRetry) :
    (setAbort n).txb = n.txb := rfl
@[simp] theorem setAbort_txi (n : Regs wTmr wRetry) :
    (setAbort n).txi = n.txi := rfl
@[simp] theorem setAbort_txf (n : Regs wTmr wRetry) :
    (setAbort n).txf = n.txf := rfl

/-! `clearSticky` -/

@[simp] theorem clearSticky_role (n : Regs wTmr wRetry) :
    (clearSticky n).role = n.role := rfl
@[simp] theorem clearSticky_timeout (n : Regs wTmr wRetry) :
    (clearSticky n).timeout = n.timeout := rfl
@[simp] theorem clearSticky_maxr (n : Regs wTmr wRetry) :
    (clearSticky n).maxr = n.maxr := rfl
@[simp] theorem clearSticky_sess (n : Regs wTmr wRetry) :
    (clearSticky n).sess = n.sess := rfl
@[simp] theorem clearSticky_err (n : Regs wTmr wRetry) :
    (clearSticky n).err = n.err := rfl
@[simp] theorem clearSticky_stDone (n : Regs wTmr wRetry) :
    (clearSticky n).stDone = false := rfl
@[simp] theorem clearSticky_stAbort (n : Regs wTmr wRetry) :
    (clearSticky n).stAbort = false := rfl
@[simp] theorem clearSticky_rstate (n : Regs wTmr wRetry) :
    (clearSticky n).rstate = n.rstate := rfl
@[simp] theorem clearSticky_expA (n : Regs wTmr wRetry) :
    (clearSticky n).expA = n.expA := rfl
@[simp] theorem clearSticky_expC (n : Regs wTmr wRetry) :
    (clearSticky n).expC = n.expC := rfl
@[simp] theorem clearSticky_frmV (n : Regs wTmr wRetry) :
    (clearSticky n).frmV = n.frmV := rfl
@[simp] theorem clearSticky_tmrSt (n : Regs wTmr wRetry) :
    (clearSticky n).tmrSt = n.tmrSt := rfl
@[simp] theorem clearSticky_tmrCnt (n : Regs wTmr wRetry) :
    (clearSticky n).tmrCnt = n.tmrCnt := rfl
@[simp] theorem clearSticky_retryCnt (n : Regs wTmr wRetry) :
    (clearSticky n).retryCnt = n.retryCnt := rfl
@[simp] theorem clearSticky_txb (n : Regs wTmr wRetry) :
    (clearSticky n).txb = n.txb := rfl
@[simp] theorem clearSticky_txi (n : Regs wTmr wRetry) :
    (clearSticky n).txi = n.txi := rfl
@[simp] theorem clearSticky_txf (n : Regs wTmr wRetry) :
    (clearSticky n).txf = n.txf := rfl

/-! `clearFrameValid` -/

@[simp] theorem clearFrameValid_role (n : Regs wTmr wRetry) :
    (clearFrameValid n).role = n.role := rfl
@[simp] theorem clearFrameValid_timeout (n : Regs wTmr wRetry) :
    (clearFrameValid n).timeout = n.timeout := rfl
@[simp] theorem clearFrameValid_maxr (n : Regs wTmr wRetry) :
    (clearFrameValid n).maxr = n.maxr := rfl
@[simp] theorem clearFrameValid_sess (n : Regs wTmr wRetry) :
    (clearFrameValid n).sess = n.sess := rfl
@[simp] theorem clearFrameValid_err (n : Regs wTmr wRetry) :
    (clearFrameValid n).err = n.err := rfl
@[simp] theorem clearFrameValid_stDone (n : Regs wTmr wRetry) :
    (clearFrameValid n).stDone = n.stDone := rfl
@[simp] theorem clearFrameValid_stAbort (n : Regs wTmr wRetry) :
    (clearFrameValid n).stAbort = n.stAbort := rfl
@[simp] theorem clearFrameValid_rstate (n : Regs wTmr wRetry) :
    (clearFrameValid n).rstate = n.rstate := rfl
@[simp] theorem clearFrameValid_expA (n : Regs wTmr wRetry) :
    (clearFrameValid n).expA = n.expA := rfl
@[simp] theorem clearFrameValid_expC (n : Regs wTmr wRetry) :
    (clearFrameValid n).expC = n.expC := rfl
@[simp] theorem clearFrameValid_frmV (n : Regs wTmr wRetry) :
    (clearFrameValid n).frmV = false := rfl
@[simp] theorem clearFrameValid_tmrSt (n : Regs wTmr wRetry) :
    (clearFrameValid n).tmrSt = n.tmrSt := rfl
@[simp] theorem clearFrameValid_tmrCnt (n : Regs wTmr wRetry) :
    (clearFrameValid n).tmrCnt = n.tmrCnt := rfl
@[simp] theorem clearFrameValid_retryCnt (n : Regs wTmr wRetry) :
    (clearFrameValid n).retryCnt = n.retryCnt := rfl
@[simp] theorem clearFrameValid_txb (n : Regs wTmr wRetry) :
    (clearFrameValid n).txb = n.txb := rfl
@[simp] theorem clearFrameValid_txi (n : Regs wTmr wRetry) :
    (clearFrameValid n).txi = n.txi := rfl
@[simp] theorem clearFrameValid_txf (n : Regs wTmr wRetry) :
    (clearFrameValid n).txf = n.txf := rfl

/-! `pulseFrameValid` -/

@[simp] theorem pulseFrameValid_role (n : Regs wTmr wRetry) :
    (pulseFrameValid n).role = n.role := rfl
@[simp] theorem pulseFrameValid_timeout (n : Regs wTmr wRetry) :
    (pulseFrameValid n).timeout = n.timeout := rfl
@[simp] theorem pulseFrameValid_maxr (n : Regs wTmr wRetry) :
    (pulseFrameValid n).maxr = n.maxr := rfl
@[simp] theorem pulseFrameValid_sess (n : Regs wTmr wRetry) :
    (pulseFrameValid n).sess = n.sess := rfl
@[simp] theorem pulseFrameValid_err (n : Regs wTmr wRetry) :
    (pulseFrameValid n).err = n.err := rfl
@[simp] theorem pulseFrameValid_stDone (n : Regs wTmr wRetry) :
    (pulseFrameValid n).stDone = n.stDone := rfl
@[simp] theorem pulseFrameValid_stAbort (n : Regs wTmr wRetry) :
    (pulseFrameValid n).stAbort = n.stAbort := rfl
@[simp] theorem pulseFrameValid_rstate (n : Regs wTmr wRetry) :
    (pulseFrameValid n).rstate = n.rstate := rfl
@[simp] theorem pulseFrameValid_expA (n : Regs wTmr wRetry) :
    (pulseFrameValid n).expA = n.expA := rfl
@[simp] theorem pulseFrameValid_expC (n : Regs wTmr wRetry) :
    (pulseFrameValid n).expC = n.expC := rfl
@[simp] theorem pulseFrameValid_frmV (n : Regs wTmr wRetry) :
    (pulseFrameValid n).frmV = true := rfl
@[simp] theorem pulseFrameValid_tmrSt (n : Regs wTmr wRetry) :
    (pulseFrameValid n).tmrSt = n.tmrSt := rfl
@[simp] theorem pulseFrameValid_tmrCnt (n : Regs wTmr wRetry) :
    (pulseFrameValid n).tmrCnt = n.tmrCnt := rfl
@[simp] theorem pulseFrameValid_retryCnt (n : Regs wTmr wRetry) :
    (pulseFrameValid n).retryCnt = n.retryCnt := rfl
@[simp] theorem pulseFrameValid_txb (n : Regs wTmr wRetry) :
    (pulseFrameValid n).txb = n.txb := rfl
@[simp] theorem pulseFrameValid_txi (n : Regs wTmr wRetry) :
    (pulseFrameValid n).txi = n.txi := rfl
@[simp] theorem pulseFrameValid_txf (n : Regs wTmr wRetry) :
    (pulseFrameValid n).txf = n.txf := rfl

/-! `acceptUA` -/

@[simp] theorem acceptUA_role (n : Regs wTmr wRetry) :
    (acceptUA n).role = n.role := rfl
@[simp] theorem acceptUA_timeout (n : Regs wTmr wRetry) :
    (acceptUA n).timeout = n.timeout := rfl
@[simp] theorem acceptUA_maxr (n : Regs wTmr wRetry) :
    (acceptUA n).maxr = n.maxr := rfl
@[simp] theorem acceptUA_sess (n : Regs wTmr wRetry) :
    (acceptUA n).sess = .opened := rfl
@[simp] theorem acceptUA_err (n : Regs wTmr wRetry) :
    (acceptUA n).err = n.err := rfl
@[simp] theorem acceptUA_stDone (n : Regs wTmr wRetry) :
    (acceptUA n).stDone = n.stDone := rfl
@[simp] theorem acceptUA_stAbort (n : Regs wTmr wRetry) :
    (acceptUA n).stAbort = n.stAbort := rfl
@[simp] theorem acceptUA_rstate (n : Regs wTmr wRetry) :
    (acceptUA n).rstate = n.rstate := rfl
@[simp] theorem acceptUA_expA (n : Regs wTmr wRetry) :
    (acceptUA n).expA = n.expA := rfl
@[simp] theorem acceptUA_expC (n : Regs wTmr wRetry) :
    (acceptUA n).expC = n.expC := rfl
@[simp] theorem acceptUA_frmV (n : Regs wTmr wRetry) :
    (acceptUA n).frmV = n.frmV := rfl
@[simp] theorem acceptUA_tmrSt (n : Regs wTmr wRetry) :
    (acceptUA n).tmrSt = .idle := rfl
@[simp] theorem acceptUA_tmrCnt (n : Regs wTmr wRetry) :
    (acceptUA n).tmrCnt = 0 := rfl
@[simp] theorem acceptUA_retryCnt (n : Regs wTmr wRetry) :
    (acceptUA n).retryCnt = n.retryCnt := rfl
@[simp] theorem acceptUA_txb (n : Regs wTmr wRetry) :
    (acceptUA n).txb = n.txb := rfl
@[simp] theorem acceptUA_txi (n : Regs wTmr wRetry) :
    (acceptUA n).txi = n.txi := rfl
@[simp] theorem acceptUA_txf (n : Regs wTmr wRetry) :
    (acceptUA n).txf = n.txf := rfl

/-! `acceptSET` -/

@[simp] theorem acceptSET_role (n : Regs wTmr wRetry) :
    (acceptSET n).role = n.role := rfl
@[simp] theorem acceptSET_timeout (n : Regs wTmr wRetry) :
    (acceptSET n).timeout = n.timeout := rfl
@[simp] theorem acceptSET_maxr (n : Regs wTmr wRetry) :
    (acceptSET n).maxr = n.maxr := rfl
@[simp] theorem acceptSET_sess (n : Regs wTmr wRetry) :
    (acceptSET n).sess = .openAck := rfl
@[simp] theorem acceptSET_err (n : Regs wTmr wRetry) :
    (acceptSET n).err = n.err := rfl
@[simp] theorem acceptSET_stDone (n : Regs wTmr wRetry) :
    (acceptSET n).stDone = n.stDone := rfl
@[simp] theorem acceptSET_stAbort (n : Regs wTmr wRetry) :
    (acceptSET n).stAbort = n.stAbort := rfl
@[simp] theorem acceptSET_rstate (n : Regs wTmr wRetry) :
    (acceptSET n).rstate = n.rstate := rfl
@[simp] theorem acceptSET_expA (n : Regs wTmr wRetry) :
    (acceptSET n).expA = n.expA := rfl
@[simp] theorem acceptSET_expC (n : Regs wTmr wRetry) :
    (acceptSET n).expC = n.expC := rfl
@[simp] theorem acceptSET_frmV (n : Regs wTmr wRetry) :
    (acceptSET n).frmV = n.frmV := rfl
@[simp] theorem acceptSET_tmrSt (n : Regs wTmr wRetry) :
    (acceptSET n).tmrSt = n.tmrSt := rfl
@[simp] theorem acceptSET_tmrCnt (n : Regs wTmr wRetry) :
    (acceptSET n).tmrCnt = n.tmrCnt := rfl
@[simp] theorem acceptSET_retryCnt (n : Regs wTmr wRetry) :
    (acceptSET n).retryCnt = n.retryCnt := rfl
@[simp] theorem acceptSET_txb (n : Regs wTmr wRetry) :
    (acceptSET n).txb = true := rfl
@[simp] theorem acceptSET_txi (n : Regs wTmr wRetry) :
    (acceptSET n).txi = 0 := rfl
@[simp] theorem acceptSET_txf (n : Regs wTmr wRetry) :
    (acceptSET n).txf = uaFrame := rfl

/-! `resendSet` -/

@[simp] theorem resendSet_role (n : Regs wTmr wRetry) :
    (resendSet n).role = n.role := rfl
@[simp] theorem resendSet_timeout (n : Regs wTmr wRetry) :
    (resendSet n).timeout = n.timeout := rfl
@[simp] theorem resendSet_maxr (n : Regs wTmr wRetry) :
    (resendSet n).maxr = n.maxr := rfl
@[simp] theorem resendSet_sess (n : Regs wTmr wRetry) :
    (resendSet n).sess = n.sess := rfl
@[simp] theorem resendSet_err (n : Regs wTmr wRetry) :
    (resendSet n).err = n.err := rfl
@[simp] theorem resendSet_stDone (n : Regs wTmr wRetry) :
    (resendSet n).stDone = n.stDone := rfl
@[simp] theorem resendSet_stAbort (n : Regs wTmr wRetry) :
    (resendSet n).stAbort = n.stAbort := rfl
@[simp] theorem resendSet_rstate (n : Regs wTmr wRetry) :
    (resendSet n).rstate = n.rstate := rfl
@[simp] theorem resendSet_expA (n : Regs wTmr wRetry) :
    (resendSet n).expA = n.expA := rfl
@[simp] theorem resendSet_expC (n : Regs wTmr wRetry) :
    (resendSet n).expC = n.expC := rfl
@[simp] theorem resendSet_frmV (n : Regs wTmr wRetry) :
    (resendSet n).frmV = n.frmV := rfl
@[simp] theorem resendSet_tmrSt (n : Regs wTmr wRetry) :
    (resendSet n).tmrSt = .pend := rfl
@[simp] theorem resendSet_tmrCnt (n : Regs wTmr wRetry) :
    (resendSet n).tmrCnt = 0 := rfl
@[simp] theorem resendSet_retryCnt (n : Regs wTmr wRetry) :
    (resendSet n).retryCnt = n.retryCnt := rfl
@[simp] theorem resendSet_txb (n : Regs wTmr wRetry) :
    (resendSet n).txb = true := rfl
@[simp] theorem resendSet_txi (n : Regs wTmr wRetry) :
    (resendSet n).txi = 0 := rfl
@[simp] theorem resendSet_txf (n : Regs wTmr wRetry) :
    (resendSet n).txf = setFrame := rfl

/-! `openAccept` -/

@[simp] theorem openAccept_role (inp : Input wTmr wRetry) (n : Regs wTmr wRetry) :
    (openAccept inp n).role = inp.cfgRole := rfl
@[simp] theorem openAccept_timeout (inp : Input wTmr wRetry) (n : Regs wTmr wRetry) :
    (openAccept inp n).timeout = inp.cfgTimeout := rfl
@[simp] theorem openAccept_maxr (inp : Input wTmr wRetry) (n : Regs wTmr wRetry) :
    (openAccept inp n).maxr = inp.cfgMaxRetry := rfl
@[simp] theorem openAccept_sess (inp : Input wTmr wRetry) (n : Regs wTmr wRetry) :
    (openAccept inp n).sess = .openChan := rfl
@[simp] theorem openAccept_err (inp : Input wTmr wRetry) (n : Regs wTmr wRetry) :
    (openAccept inp n).err = .none := rfl
@[simp] theorem openAccept_stDone (inp : Input wTmr wRetry) (n : Regs wTmr wRetry) :
    (openAccept inp n).stDone = false := rfl
@[simp] theorem openAccept_stAbort (inp : Input wTmr wRetry) (n : Regs wTmr wRetry) :
    (openAccept inp n).stAbort = false := rfl
@[simp] theorem openAccept_rstate (inp : Input wTmr wRetry) (n : Regs wTmr wRetry) :
    (openAccept inp n).rstate = .start := rfl
@[simp] theorem openAccept_expA (inp : Input wTmr wRetry) (n : Regs wTmr wRetry) :
    (openAccept inp n).expA = aCmd := rfl
@[simp] theorem openAccept_expC (inp : Input wTmr wRetry) (n : Regs wTmr wRetry) :
    (openAccept inp n).expC = awaitedCtrl inp.cfgRole := rfl
@[simp] theorem openAccept_frmV (inp : Input wTmr wRetry) (n : Regs wTmr wRetry) :
    (openAccept inp n).frmV = n.frmV := rfl
@[simp] theorem openAccept_tmrSt (inp : Input wTmr wRetry) (n : Regs wTmr wRetry) :
    (openAccept inp n).tmrSt = .idle := rfl
@[simp] theorem openAccept_tmrCnt (inp : Input wTmr wRetry) (n : Regs wTmr wRetry) :
    (openAccept inp n).tmrCnt = 0 := rfl
@[simp] theorem openAccept_retryCnt (inp : Input wTmr wRetry) (n : Regs wTmr wRetry) :
    (openAccept inp n).retryCnt = 0 := rfl
@[simp] theorem openAccept_txb (inp : Input wTmr wRetry) (n : Regs wTmr wRetry) :
    (openAccept inp n).txb = n.txb := rfl
@[simp] theorem openAccept_txi (inp : Input wTmr wRetry) (n : Regs wTmr wRetry) :
    (openAccept inp n).txi = n.txi := rfl
@[simp] theorem openAccept_txf (inp : Input wTmr wRetry) (n : Regs wTmr wRetry) :
    (openAccept inp n).txf = n.txf := rfl

/-! `recordError` and the error entry, whose `ERR` depends on the state at the start of the cycle (R255). -/

@[simp] theorem recordError_role (code : Err) (s n : Regs wTmr wRetry) :
    (recordError code s n).role = n.role := by
  unfold recordError; split <;> rfl
@[simp] theorem recordError_timeout (code : Err) (s n : Regs wTmr wRetry) :
    (recordError code s n).timeout = n.timeout := by
  unfold recordError; split <;> rfl
@[simp] theorem recordError_maxr (code : Err) (s n : Regs wTmr wRetry) :
    (recordError code s n).maxr = n.maxr := by
  unfold recordError; split <;> rfl
@[simp] theorem recordError_sess (code : Err) (s n : Regs wTmr wRetry) :
    (recordError code s n).sess = n.sess := by
  unfold recordError; split <;> rfl
@[simp] theorem recordError_err (code : Err) (s n : Regs wTmr wRetry) :
    (recordError code s n).err = if s.err = .none then code else n.err := by
  unfold recordError; split <;> rfl
@[simp] theorem recordError_stDone (code : Err) (s n : Regs wTmr wRetry) :
    (recordError code s n).stDone = n.stDone := by
  unfold recordError; split <;> rfl
@[simp] theorem recordError_stAbort (code : Err) (s n : Regs wTmr wRetry) :
    (recordError code s n).stAbort = n.stAbort := by
  unfold recordError; split <;> rfl
@[simp] theorem recordError_rstate (code : Err) (s n : Regs wTmr wRetry) :
    (recordError code s n).rstate = n.rstate := by
  unfold recordError; split <;> rfl
@[simp] theorem recordError_expA (code : Err) (s n : Regs wTmr wRetry) :
    (recordError code s n).expA = n.expA := by
  unfold recordError; split <;> rfl
@[simp] theorem recordError_expC (code : Err) (s n : Regs wTmr wRetry) :
    (recordError code s n).expC = n.expC := by
  unfold recordError; split <;> rfl
@[simp] theorem recordError_frmV (code : Err) (s n : Regs wTmr wRetry) :
    (recordError code s n).frmV = n.frmV := by
  unfold recordError; split <;> rfl
@[simp] theorem recordError_tmrSt (code : Err) (s n : Regs wTmr wRetry) :
    (recordError code s n).tmrSt = n.tmrSt := by
  unfold recordError; split <;> rfl
@[simp] theorem recordError_tmrCnt (code : Err) (s n : Regs wTmr wRetry) :
    (recordError code s n).tmrCnt = n.tmrCnt := by
  unfold recordError; split <;> rfl
@[simp] theorem recordError_retryCnt (code : Err) (s n : Regs wTmr wRetry) :
    (recordError code s n).retryCnt = n.retryCnt := by
  unfold recordError; split <;> rfl
@[simp] theorem recordError_txb (code : Err) (s n : Regs wTmr wRetry) :
    (recordError code s n).txb = n.txb := by
  unfold recordError; split <;> rfl
@[simp] theorem recordError_txi (code : Err) (s n : Regs wTmr wRetry) :
    (recordError code s n).txi = n.txi := by
  unfold recordError; split <;> rfl
@[simp] theorem recordError_txf (code : Err) (s n : Regs wTmr wRetry) :
    (recordError code s n).txf = n.txf := by
  unfold recordError; split <;> rfl

@[simp] theorem errorEntry_role (code : Err) (s n : Regs wTmr wRetry) :
    (errorEntry code s n).role = n.role := by
  simp [errorEntry]
@[simp] theorem errorEntry_timeout (code : Err) (s n : Regs wTmr wRetry) :
    (errorEntry code s n).timeout = n.timeout := by
  simp [errorEntry]
@[simp] theorem errorEntry_maxr (code : Err) (s n : Regs wTmr wRetry) :
    (errorEntry code s n).maxr = n.maxr := by
  simp [errorEntry]
@[simp] theorem errorEntry_sess (code : Err) (s n : Regs wTmr wRetry) :
    (errorEntry code s n).sess = .closing := by
  simp [errorEntry]
@[simp] theorem errorEntry_err (code : Err) (s n : Regs wTmr wRetry) :
    (errorEntry code s n).err = if s.err = .none then code else n.err := by
  simp [errorEntry]
@[simp] theorem errorEntry_stDone (code : Err) (s n : Regs wTmr wRetry) :
    (errorEntry code s n).stDone = n.stDone := by
  simp [errorEntry]
@[simp] theorem errorEntry_stAbort (code : Err) (s n : Regs wTmr wRetry) :
    (errorEntry code s n).stAbort = n.stAbort := by
  simp [errorEntry]
@[simp] theorem errorEntry_rstate (code : Err) (s n : Regs wTmr wRetry) :
    (errorEntry code s n).rstate = n.rstate := by
  simp [errorEntry]
@[simp] theorem errorEntry_expA (code : Err) (s n : Regs wTmr wRetry) :
    (errorEntry code s n).expA = n.expA := by
  simp [errorEntry]
@[simp] theorem errorEntry_expC (code : Err) (s n : Regs wTmr wRetry) :
    (errorEntry code s n).expC = n.expC := by
  simp [errorEntry]
@[simp] theorem errorEntry_frmV (code : Err) (s n : Regs wTmr wRetry) :
    (errorEntry code s n).frmV = n.frmV := by
  simp [errorEntry]
@[simp] theorem errorEntry_tmrSt (code : Err) (s n : Regs wTmr wRetry) :
    (errorEntry code s n).tmrSt = .idle := by
  simp [errorEntry]
@[simp] theorem errorEntry_tmrCnt (code : Err) (s n : Regs wTmr wRetry) :
    (errorEntry code s n).tmrCnt = 0 := by
  simp [errorEntry]
@[simp] theorem errorEntry_retryCnt (code : Err) (s n : Regs wTmr wRetry) :
    (errorEntry code s n).retryCnt = n.retryCnt := by
  simp [errorEntry]
@[simp] theorem errorEntry_txb (code : Err) (s n : Regs wTmr wRetry) :
    (errorEntry code s n).txb = false := by
  simp [errorEntry]
@[simp] theorem errorEntry_txi (code : Err) (s n : Regs wTmr wRetry) :
    (errorEntry code s n).txi = 0 := by
  simp [errorEntry]
@[simp] theorem errorEntry_txf (code : Err) (s n : Regs wTmr wRetry) :
    (errorEntry code s n).txf = n.txf := by
  simp [errorEntry]

/-! The model's own fields. -/

@[simp] theorem withFetchWord_regs (s : State) (nbits w : Nat) : (s.withFetchWord nbits w).regs = s.regs := rfl
@[simp] theorem withFetchWord_result (s : State) (nbits w : Nat) : (s.withFetchWord nbits w).result = s.result := rfl
@[simp] theorem withFetchWord_stim (s : State) (nbits w : Nat) :
    (s.withFetchWord nbits w).stim = itemOfTableWord nbits w :: s.stim := rfl
@[simp] theorem withFetchWord_draws (s : State) (nbits w : Nat) : (s.withFetchWord nbits w).draws = s.draws := rfl
@[simp] theorem queue_regs (s : State wTmr wRetry) (ls : List (StimLine wTmr wRetry)) :
    (s.queue ls).regs = s.regs := rfl
@[simp] theorem queue_result (s : State wTmr wRetry) (ls : List (StimLine wTmr wRetry)) :
    (s.queue ls).result = s.result := rfl
@[simp] theorem queue_draws (s : State wTmr wRetry) (ls : List (StimLine wTmr wRetry)) :
    (s.queue ls).draws = s.draws := rfl

end Sys2Proof.Laws
end

