-- ==== Sys2Proof/Laws/Ops.lean ====
section
/-! SUPPORT. One lemma for each shared operation that says once everything it can do. Later proofs cite these and do
not unfold the operation. -/

namespace Sys2Proof.Laws

open Sys2Proof.Machine

variable {wTmr wRetry : Nat}

/-! How an instruction completes. -/

theorem complete_eq_next_iff (f : Regs wTmr wRetry → Regs wTmr wRetry) (s t : State wTmr wRetry) :
    complete f s = .next t ↔ t = { s with regs := f s.regs } := by
  simp [complete, eq_comm]

theorem answer_eq_next_iff (r : Result) (s t : State wTmr wRetry) :
    answer r s = .next t ↔ t = { s with result := r } := by
  simp [answer, eq_comm]

/-- What one clock cycle can do: nothing but go on to `cycle`. -/
theorem runCycle_eq_next_iff (inp : Input wTmr wRetry) (s t : State wTmr wRetry) :
    runCycle inp s = .next t ↔
      isReserved (command inp) = false ∧ t = { s with regs := cycle inp s.regs } := by
  unfold runCycle
  split <;> simp_all [complete_eq_next_iff]

/-- A cycle that presents no reserved command completes. -/
theorem runCycle_ordinary {inp : Input wTmr wRetry} (hc : isReserved (command inp) = false)
    (s : State wTmr wRetry) : runCycle inp s = s.goesOn (cycle inp s.regs) :=
  (runCycle_eq_next_iff inp s _).2 ⟨hc, rfl⟩

theorem runCycle_reserved {inp : Input wTmr wRetry} (hc : isReserved (command inp) = true) (s : State wTmr wRetry) :
    runCycle inp s = .refused (.reservedCommand inp.cmdOp) := if_pos hc

/-- What a step can do: run what the next encoded object decodes to, in the state with that object taken. -/
theorem step_eq_next {s t : State} (h : step s = .next t) :
    ∃ i, decode (fetch s).1 = .ok i ∧ exec i (fetch s).2 = .next t := by
  unfold step at h
  split at h
  · exact ⟨_, ‹_›, h⟩
  · cases h

theorem fetch_regs (s : State wTmr wRetry) : (fetch s).2.regs = s.regs := by
  unfold fetch; split <;> rfl

theorem fetch_result (s : State wTmr wRetry) : (fetch s).2.result = s.result := by
  unfold fetch; split <;> rfl

/-! The parts of a cycle. -/

theorem consumedByte_eq_some {s : Regs wTmr wRetry} {inp : Input wTmr wRetry} {b : Byte} :
    consumedByte s inp = some b ↔
      s.sess = .openWait ∧ inp.chanErr = false ∧ inp.rxValid = true ∧ inp.rxData = b := by
  simp [consumedByte, parserActive, rxByteIn, and_assoc]

theorem doneEvent_iff {s : Regs wTmr wRetry} {inp : Input wTmr wRetry} :
    doneEvent s inp = true ↔
      ∃ b, consumedByte s inp = some b ∧ (parseStep s.rstate b s.expA s.expC).1 = .done := by
  unfold doneEvent
  split <;> simp_all

theorem txDone_iff {s : Regs wTmr wRetry} {inp : Input wTmr wRetry} :
    txDone s inp = true ↔ s.txb = true ∧ inp.txReady = true ∧ s.txi = 4 := by
  simp [txDone, txAccepted, and_assoc]

/-- Only `ChecksumOk` on a FLAG enters `Done` (R146). -/
theorem parseNext_done_iff (st : RState) (b ea ec : Byte) :
    parseNext st b ea ec = .done ↔ st = .checksumOk ∧ b = flag := by
  cases st <;> simp only [parseNext] <;> split <;> (try split) <;> simp_all

theorem parseStep_fst (st : RState) (b ea ec : Byte) :
    (parseStep st b ea ec).1 = parseNext st b ea ec := rfl

/-- TX_STEP writes `TXB` and `TXI` only (R201). -/
theorem transmit_eq (inp : Input wTmr wRetry) (s n : Regs wTmr wRetry) :
    transmit inp s n = { n with
      txb := if txDone s inp then false else n.txb
      txi := if txDone s inp then 0 else if txAccepted s inp then s.txi + 1 else n.txi } := by
  unfold transmit txDone
  by_cases h : txAccepted s inp <;> by_cases h4 : s.txi = 4 <;> simp [h, h4, dropFrame]

theorem transmit_idle {s : Regs wTmr wRetry} (inp : Input wTmr wRetry) (n : Regs wTmr wRetry) (h : s.txb = false) :
    transmit inp s n = n := by
  simp [transmit, txAccepted, h]

/-- What the parser writes in a cycle: `RSTATE` and `FRM_V` only (R160). -/
theorem parseCycle_eq (inp : Input wTmr wRetry) (s n : Regs wTmr wRetry) :
    parseCycle inp s n = { n with
      frmV := doneEvent s inp
      rstate := match consumedByte s inp with
        | some b => parseNext s.rstate b s.expA s.expC
        | none => n.rstate } := by
  unfold parseCycle doneEvent
  cases consumedByte s inp with
  | none => rfl
  | some b =>
    by_cases h : parseNext s.rstate b s.expA s.expC = .done
    · simp [consume, clearFrameValid, pulseFrameValid, parseStep_fst, h]
    · simp [consume, clearFrameValid, parseStep_fst, h]

theorem doneEvent_eq_confirms {s : Regs wTmr wRetry} {inp : Input wTmr wRetry} :
    doneEvent s inp = true ↔
      s.sess = .openWait ∧ inp.chanErr = false ∧ inp.rxValid = true ∧ s.rstate = .checksumOk ∧
        inp.rxData = flag := by
  simp [doneEvent_iff, consumedByte_eq_some, parseStep_fst, parseNext_done_iff, and_assoc]

theorem preempted_iff {inp : Input wTmr wRetry} {s : Regs wTmr wRetry} :
    preempted inp s = true ↔ s.sess = .openWait ∧ (inp.chanErr = true ∨ doneEvent s inp = true) := by
  simp [preempted, parserActive]

/-- Everything the error entry writes (R254). -/
theorem errorEntry_eq (code : Err) (s n : Regs wTmr wRetry) :
    errorEntry code s n = { n with
      err := if s.err = .none then code else n.err
      tmrSt := .idle, tmrCnt := 0, txb := false, txi := 0, sess := .closing } := by
  unfold errorEntry recordError
  split <;> rfl

/-- The two outcomes of an expiry (R178 to R181). -/
theorem expire_eq (s n : Regs wTmr wRetry) :
    expire s n = if s.maxr.toNat ≤ s.retryCnt.toNat + 1
      then errorEntry .connectionTimeout s { n with retryCnt := nextRetry s, stAbort := true }
      else resendSet { n with retryCnt := nextRetry s } := rfl

/-- A cycle that consumes no byte has no Done event. -/
theorem doneEvent_of_no_byte {s : Regs wTmr wRetry} {inp : Input wTmr wRetry} (h : consumedByte s inp = none) :
    doneEvent s inp = false := by
  simp [doneEvent, h]

/-- The cycle step, less reset (R235). -/
theorem cycle_eq {inp : Input wTmr wRetry} (s : Regs wTmr wRetry) (h : inp.rst = false) :
    cycle inp s = controller inp (txDone s inp) s (transmit inp s (clearFrameValid s)) := by
  simp [cycle, h]

theorem cycle_rst {inp : Input wTmr wRetry} (s : Regs wTmr wRetry) (h : inp.rst = true) : cycle inp s = Regs.reset := by
  simp [cycle, h]

theorem runCycles_nil (r : Regs wTmr wRetry) : runCycles [] r = r := rfl

theorem runCycles_cons (i : Input wTmr wRetry) (ins : List (Input wTmr wRetry)) (r : Regs wTmr wRetry) :
    runCycles (i :: ins) r = runCycles ins (cycle i r) := rfl

theorem runCycles_append (xs ys : List (Input wTmr wRetry)) (r : Regs wTmr wRetry) :
    runCycles (xs ++ ys) r = runCycles ys (runCycles xs r) := List.foldl_append

/-! The receiving lines of the stimulus notation -/

/-- SENDFRAME stands for its RXS, with the items of its line (R107). -/
theorem expandLines_sendFrame (a c : Byte) (xs : List (StimItem wTmr wRetry)) (ls : List (StimLine wTmr wRetry))
    (standing : List (StimItem wTmr wRetry)) :
    expandLines (.sendFrame a c xs :: ls) standing
      = expandLines (.rxs flag [a, c, bcc a c, flag] xs :: ls) standing := rfl

/-- SENDSET stands for SENDFRAME 03 03 (R107). -/
theorem expandLines_sendSet (xs : List (StimItem wTmr wRetry)) (ls : List (StimLine wTmr wRetry))
    (standing : List (StimItem wTmr wRetry)) :
    expandLines (.sendSet xs :: ls) standing = expandLines (.sendFrame aCmd cSet xs :: ls) standing := rfl

/-- SENDUA stands for SENDFRAME 03 07 (R107). -/
theorem expandLines_sendUa (xs : List (StimItem wTmr wRetry)) (ls : List (StimLine wTmr wRetry))
    (standing : List (StimItem wTmr wRetry)) :
    expandLines (.sendUa xs :: ls) standing = expandLines (.sendFrame aCmd cUa xs :: ls) standing := rfl

end Sys2Proof.Laws
end

