-- ==== Sys2Proof/Laws/PerInstr.lean ====
section
/-! SUPPORT. Statements for all instructions, one lemma per constructor of `Instr`. -/

namespace Sys2Proof.Laws

open Sys2Proof.Machine

/-- Packing and unpacking a frame (R125). -/
theorem unpack40_pack40 (f : Frame) : unpack40 (pack40 f) = f := by
  cases f
  simp only [pack40, unpack40, Frame.mk.injEq]
  refine ⟨?_, ?_, ?_, ?_, ?_⟩ <;>
  · apply BitVec.eq_of_getLsbD_eq
    intro j hj
    simp only [BitVec.getLsbD_extractLsb', BitVec.getLsbD_append]
    interval_cases j <;> simp

/-- The encoder leaves the reserved bits `IN[23:21]` 0 at every width (R103). -/
theorem reservedBits_toWord {wTmr wRetry : Nat} (i : Input wTmr wRetry) : reservedBits i.toWord = 0 := by
  apply BitVec.eq_of_getLsbD_eq
  intro j hj
  simp only [reservedBits, Input.toWord, BitVec.getLsbD_extractLsb', BitVec.getLsbD_append]
  interval_cases j <;> simp

/-- Law L1 of R127 for one pair. -/
theorem decodeFrame_buildFrame (a c : Byte) : decodeFrame (buildFrame a c) = some (a, c) := by
  simp [decodeFrame, buildFrame, bccCheck]

/-- The encoded object of an instruction is in legal form: a vector's reserved bits are 0 (R103), a frame is a
well-formed control frame (R92). -/
def EncodedForm.Statement (i : Instr) : Prop :=
  match encode i with
  | none => i.input? = none ∧ i.frame? = none
  | some (.cycle v) => reservedBits v = 0
  | some (.frame v) => decodeFrame (unpack40 v) ≠ none

theorem EncodedForm.of_input {i : Instr} {inp : Input} (hf : i.frame? = none)
    (hi : i.input? = some inp) : EncodedForm.Statement i := by
  simp [EncodedForm.Statement, encode, hf, hi, reservedBits_toWord]

theorem EncodedForm.of_frame {i : Instr} {a c : Byte} (hf : i.frame? = some (buildFrame a c)) :
    EncodedForm.Statement i := by
  simp [EncodedForm.Statement, encode, hf, unpack40_pack40, decodeFrame_buildFrame]

theorem EncodedForm.of_micro {i : Instr} (hf : i.frame? = none) (hi : i.input? = none) :
    EncodedForm.Statement i := by
  simp [EncodedForm.Statement, encode, hf, hi]

theorem EncodedForm.setFrame : EncodedForm.Statement .setFrame := of_frame rfl
theorem EncodedForm.uaFrame : EncodedForm.Statement .uaFrame := of_frame rfl
theorem EncodedForm.ctrlFrame (a : Byte) (c : Byte) : EncodedForm.Statement (.ctrlFrame a c) := of_frame rfl
theorem EncodedForm.nop : EncodedForm.Statement .nop := of_input rfl rfl
theorem EncodedForm.openCmd (role : Role) (timeout : Ticks) (maxRetry : Retries) : EncodedForm.Statement (.openCmd role timeout maxRetry) := of_input rfl rfl
theorem EncodedForm.closeCmd : EncodedForm.Statement .closeCmd := of_input rfl rfl
theorem EncodedForm.writeCmd : EncodedForm.Statement .writeCmd := of_input rfl rfl
theorem EncodedForm.readCmd : EncodedForm.Statement .readCmd := of_input rfl rfl
theorem EncodedForm.rsvd5 : EncodedForm.Statement .rsvd5 := of_input rfl rfl
theorem EncodedForm.rsvd6 : EncodedForm.Statement .rsvd6 := of_input rfl rfl
theorem EncodedForm.rsvd7 : EncodedForm.Statement .rsvd7 := of_input rfl rfl
theorem EncodedForm.rst : EncodedForm.Statement .rst := of_input rfl rfl
theorem EncodedForm.rxByte (b : Byte) : EncodedForm.Statement (.rxByte b) := of_input rfl rfl
theorem EncodedForm.tick : EncodedForm.Statement .tick := of_input rfl rfl
theorem EncodedForm.txReady : EncodedForm.Statement .txReady := of_input rfl rfl
theorem EncodedForm.openAck : EncodedForm.Statement .openAck := of_input rfl rfl
theorem EncodedForm.openFail : EncodedForm.Statement .openFail := of_input rfl rfl
theorem EncodedForm.closeAck : EncodedForm.Statement .closeAck := of_input rfl rfl
theorem EncodedForm.chanErr : EncodedForm.Statement .chanErr := of_input rfl rfl
theorem EncodedForm.buildFrame (a : Byte) (c : Byte) : EncodedForm.Statement (.buildFrame a c) := of_micro rfl rfl
theorem EncodedForm.bcc (a : Byte) (c : Byte) : EncodedForm.Statement (.bcc a c) := of_micro rfl rfl
theorem EncodedForm.bccCheck (a : Byte) (c : Byte) (k : Byte) : EncodedForm.Statement (.bccCheck a c k) := of_micro rfl rfl
theorem EncodedForm.decodeFrame (f : Frame) : EncodedForm.Statement (.decodeFrame f) := of_micro rfl rfl
theorem EncodedForm.classify (a : Byte) (c : Byte) : EncodedForm.Statement (.classify a c) := of_micro rfl rfl
theorem EncodedForm.pack40 (x : PackArg) : EncodedForm.Statement (.pack40 x) := of_micro rfl rfl
theorem EncodedForm.parseStep (st : RState) (b : Byte) (ea : Byte) (ec : Byte) : EncodedForm.Statement (.parseStep st b ea ec) := of_micro rfl rfl
theorem EncodedForm.parserReset : EncodedForm.Statement .parserReset := of_micro rfl rfl
theorem EncodedForm.parseStepCycle (inp : Input) : EncodedForm.Statement (.parseStepCycle inp) := of_micro rfl rfl
theorem EncodedForm.timerArm : EncodedForm.Statement .timerArm := of_micro rfl rfl
theorem EncodedForm.startCount (inp : Input) : EncodedForm.Statement (.startCount inp) := of_micro rfl rfl
theorem EncodedForm.timerTick (inp : Input) : EncodedForm.Statement (.timerTick inp) := of_micro rfl rfl
theorem EncodedForm.timerExpire : EncodedForm.Statement .timerExpire := of_micro rfl rfl
theorem EncodedForm.resend : EncodedForm.Statement .resend := of_micro rfl rfl
theorem EncodedForm.exhausted : EncodedForm.Statement .exhausted := of_micro rfl rfl
theorem EncodedForm.timerDisarm : EncodedForm.Statement .timerDisarm := of_micro rfl rfl
theorem EncodedForm.timerStep (inp : Input) (txdone : Bool) : EncodedForm.Statement (.timerStep inp txdone) := of_micro rfl rfl
theorem EncodedForm.txStep (inp : Input) : EncodedForm.Statement (.txStep inp) := of_micro rfl rfl
theorem EncodedForm.txLoad (f : Frame) : EncodedForm.Statement (.txLoad f) := of_micro rfl rfl
theorem EncodedForm.acceptSet : EncodedForm.Statement .acceptSet := of_micro rfl rfl
theorem EncodedForm.acceptUa : EncodedForm.Statement .acceptUa := of_micro rfl rfl
theorem EncodedForm.errorExit (code : ErrCode) : EncodedForm.Statement (.errorExit code) := of_micro rfl rfl
theorem EncodedForm.step (inp : Input) : EncodedForm.Statement (.step inp) := of_input rfl rfl

end Sys2Proof.Laws
end

