-- ==== Sys2Proof/Tests/Slice0.lean ====
section
/-! SUPPORT. The model's own tests. Every expected result is from the spec: its worked examples and its vectors of
spec/95_test_vectors.md, cited by their labels. The witnesses at the end meet the hypotheses of the statements in
Sys2Proof/Certificates/Slice0/Obligations.lean. -/

open Sys2Proof Sys2Proof.Machine Sys2Proof.Claims

namespace Sys2Proof.Tests

/-! ## Small states -/

/-- The state with the registers `r`, and nothing queued. -/
def st (r : Regs) : State := { State.reset with regs := r }

/-- What `f` reads of the registers after one instruction, if it goes on. -/
def seen {α : Type} (i : Instr) (r : Regs) (f : Regs → α) : Option α :=
  match exec i (st r) with
  | .next t => some (f t.regs)
  | .fault _ | .refused _ => none

/-- The value that one micro-operation returns, if it goes on. -/
def value (i : Instr) : Option Result :=
  match exec i State.reset with
  | .next t => some t.result
  | .fault _ | .refused _ => none

/-- A transmitter in `OPEN_WAIT`, its SET loaded, the timer pending. -/
def txPend : Regs :=
  { Regs.reset with
    timeout := 3, maxr := 3, sess := .openWait, expA := 0x03, expC := 0x07, tmrSt := .pend, txb := true,
    txf := { opening := 0x7E, addr := 0x03, ctrl := 0x03, bcc := 0x00, closing := 0x7E } }

/-- The same transmitter with its SET sent and `count` ticks left. -/
def txRun (count : Ticks) (retry max : Retries) : Regs :=
  { txPend with txb := false, tmrSt := .run, tmrCnt := count, retryCnt := retry, maxr := max }

/-- A receiver in `OPEN_WAIT`. -/
def rxWait : Regs :=
  { Regs.reset with role := .receiver, sess := .openWait, expA := 0x03, expC := 0x03 }

/-- A receiver in `OPEN_ACK` that offers byte `i` of its UA. -/
def rxAck (i : Fin 5) : Regs :=
  { rxWait with
    sess := .openAck, rstate := .done, stDone := true, txb := true, txi := i,
    txf := { opening := 0x7E, addr := 0x03, ctrl := 0x07, bcc := 0x04, closing := 0x7E } }

/-- A receiver in `OPEN`. -/
def rxOpen : Regs := { rxAck 0 with sess := .opened, txb := false }

/-- A receiver in `CLOSING`, its transmitter idle. -/
def rxClosing : Regs := { rxOpen with sess := .closing }

/-- A transmitter in `OPEN_CHAN`. -/
def txChan : Regs := { txPend with sess := .openChan, tmrSt := .idle, txb := false }

/-- `r` with the parser in `ChecksumOk`. -/
def atCO (r : Regs) : Regs := { r with rstate := .checksumOk }

/-- A transmitter in `CLOSED` whose session timed out. -/
def txFailed : Regs :=
  { txRun 0 3 3 with
    sess := .closed, tmrSt := .idle, err := .connectionTimeout, stAbort := true, rstate := .done }

/-- The cycle of `TXR; TICK`. -/
def txrTick : Input := { (Input.onlyTick : Input) with txReady := true }

/-! ## Well-formedness: an ill-formed term for each check -/

theorem test_set_is_no_ctrl_frame : (Instr.ctrlFrame 0x03 0x03).wellFormed = false := by decide

theorem test_ua_is_no_ctrl_frame : (Instr.ctrlFrame 0x03 0x07).wellFormed = false := by decide

theorem test_untyped_ctrl_frame_is_well_formed : (Instr.ctrlFrame 0x02 0x06).wellFormed = true := by decide

theorem test_protocol_violation_is_not_raised :
    (Instr.errorExit .protocolViolation).wellFormed = false := by decide

theorem test_connection_timeout_is_raised : (Instr.errorExit .connectionTimeout).wellFormed = true := by decide

theorem test_single_event_is_no_step : (Instr.step .onlyTick).wellFormed = false := by decide

theorem test_two_events_are_a_step : (Instr.step txrTick).wellFormed = true := by decide

/-! ## Decoding: words written out from R103 (V-I), R93 and R92 -/

theorem test_decode_rst : decode (.cycle 0x000000000001) = .ok .rst := rfl

theorem test_decode_nop : decode (.cycle 0x000000000002) = .ok .nop := rfl

theorem test_decode_open_tx : decode (.cycle 0x000000000006) = .ok (.openCmd .transmitter 0 0) := rfl

theorem test_decode_open_rx : decode (.cycle 0x000000000026) = .ok (.openCmd .receiver 0 0) := rfl

theorem test_decode_open_tx_3_3 : decode (.cycle 0x030003000006) = .ok (.openCmd .transmitter 3 3) := rfl

theorem test_decode_open_tx_2_3 : decode (.cycle 0x030002000006) = .ok (.openCmd .transmitter 2 3) := rfl

theorem test_decode_close : decode (.cycle 0x00000000000A) = .ok .closeCmd := rfl

theorem test_decode_write : decode (.cycle 0x00000000000E) = .ok .writeCmd := rfl

theorem test_decode_read : decode (.cycle 0x000000000012) = .ok .readCmd := rfl

theorem test_decode_rsvd5 : decode (.cycle 0x000000000016) = .ok .rsvd5 := rfl

theorem test_decode_rsvd6 : decode (.cycle 0x00000000001A) = .ok .rsvd6 := rfl

theorem test_decode_rsvd7 : decode (.cycle 0x00000000001E) = .ok .rsvd7 := rfl

theorem test_decode_rx_00 : decode (.cycle 0x000000000040) = .ok (.rxByte 0x00) := rfl

theorem test_decode_rx_03 : decode (.cycle 0x0000000001C0) = .ok (.rxByte 0x03) := rfl

theorem test_decode_rx_ff : decode (.cycle 0x000000007FC0) = .ok (.rxByte 0xFF) := rfl

theorem test_decode_rx_7e : decode (.cycle 0x000000003F40) = .ok (.rxByte 0x7E) := rfl

theorem test_decode_tick : decode (.cycle 0x000000008000) = .ok .tick := rfl

theorem test_decode_tx_ready : decode (.cycle 0x000000010000) = .ok .txReady := rfl

theorem test_decode_open_ack : decode (.cycle 0x000000020000) = .ok .openAck := rfl

theorem test_decode_open_fail : decode (.cycle 0x000000040000) = .ok .openFail := rfl

theorem test_decode_close_ack : decode (.cycle 0x000000080000) = .ok .closeAck := rfl

theorem test_decode_chan_err : decode (.cycle 0x000000100000) = .ok .chanErr := rfl

theorem test_decode_txr_tick : decode (.cycle 0x000000018000) = .ok (.step txrTick) := rfl

theorem test_decode_idle : decode (.cycle 0x000000000000) = .ok (.step .idle) := rfl

theorem test_decode_set_frame : decode (.frame 0x7E0303007E) = .ok .setFrame := rfl

theorem test_decode_ua_frame : decode (.frame 0x7E0307047E) = .ok .uaFrame := rfl

theorem test_decode_ctrl_frame : decode (.frame 0x7E0206047E) = .ok (.ctrlFrame 0x02 0x06) := rfl

theorem test_refuse_reserved_bit_21 : decode (.cycle 0x000000200000) = .error .reservedInputBits := rfl

theorem test_refuse_reserved_bit_23 : decode (.cycle 0x000000800000) = .error .reservedInputBits := rfl

theorem test_refuse_bad_opening : decode (.frame 0x7F0303007E) = .error .badOpeningFlag := rfl

theorem test_refuse_bad_closing : decode (.frame 0x7E0303007F) = .error .badClosingFlag := rfl

theorem test_refuse_bad_bcc : decode (.frame 0x7E0303017E) = .error .badChecksum := rfl

theorem test_encode_open : encode (.openCmd .transmitter 3 3) = some (.cycle 0x030003000006) := by decide

theorem test_encode_ua : encode .uaFrame = some (.frame 0x7E0307047E) := by decide

theorem test_micro_operation_has_no_encoding : encode .timerArm = none := by decide

theorem test_table_word_set : decodeTableWord 40 0x7E0303007E = some .setFrame := rfl

theorem test_table_word_chan_err : decodeTableWord 24 0x100000 = some .chanErr := rfl

theorem test_with_fetch_word_runs :
    step (State.reset.withFetchWord 8 0x6) = exec (.openCmd .transmitter 0 0) State.reset := rfl

/-- R106 and V-I: `TXR; TICK`. -/
theorem test_stimulus_line :
    (expandLines [.cycle [.txr, .tick]] [] : List Input).map Input.toWord = [0x000000018000] := by decide

/-- R107: `SENDSET`. -/
theorem test_stimulus_sendset :
    (expandLines [.sendSet []] [] : List Input).map (·.rxData) = [0x7E, 0x03, 0x03, 0x00, 0x7E] := by decide

/-- R107: the items on the line of `SENDSET; TICK` go on its first cycle only, as on the line of the RXS it stands for. -/
theorem test_stimulus_sendset_tick : (expandLines [.sendSet [.tick]] [] : List Input).map Input.toWord
      = [0x00000000BF40, 0x0000000001C0, 0x0000000001C0, 0x000000000040, 0x000000003F40] := by decide

/-- R107: `.always TXR`, `RXS 7E 03` with a `TICK` on its line, `IDLE 1`, `.never TXR`. -/
theorem test_stimulus_always : (expandLines [.always .txr, .rxs 0x7E [0x03] [.tick],
      .idle 1, .never .txr, .cycle []] [] : List Input).map Input.toWord
      = [0x00000001BF40, 0x0000000101C0, 0x000000010000, 0x000000000000] := by decide

/-! ## The codec rows (V-C) -/

/-- CD4. -/
theorem test_build_frame :
    value (.buildFrame 0xFF 0x0F) = some (.frame ⟨0x7E, 0xFF, 0x0F, 0xF0, 0x7E⟩) := by decide

/-- CD5: FLAG in ADDR, no escaping. -/
theorem test_build_frame_flag :
    value (.buildFrame 0x7E 0x00) = some (.frame ⟨0x7E, 0x7E, 0x00, 0x7E, 0x7E⟩) := by decide

/-- CD7. -/
theorem test_bcc : value (.bcc 0x03 0x07) = some (.byte 0x04) := by decide

/-- CD7. -/
theorem test_bcc_not : value (.bcc 0x5A 0xFF) = some (.byte 0xA5) := by decide

/-- CD8. -/
theorem test_bcc_check : value (.bccCheck 0x03 0x07 0x04) = some (.bool true) := by decide

/-- CD8. -/
theorem test_bcc_check_bad : value (.bccCheck 0x03 0x03 0x04) = some (.bool false) := by decide

/-- CD9. -/
theorem test_decode_frame_ua :
    value (.decodeFrame ⟨0x7E, 0x03, 0x07, 0x04, 0x7E⟩) = some (.pair (some (0x03, 0x07))) := by decide

/-- CD11. -/
theorem test_decode_frame_bad :
    value (.decodeFrame ⟨0x7E, 0x03, 0x03, 0x00, 0x7F⟩) = some (.pair none) := by decide

/-- CD15. -/
theorem test_classify_ua : value (.classify 0x03 0x07) = some (.frameType .ua) := by decide

/-- CD15. -/
theorem test_classify_untyped : value (.classify 0x03 0x01) = some (.frameType .untyped) := by decide

/-- CD16. -/
theorem test_pack40 :
    value (.pack40 (.pack ⟨0x7E, 0x03, 0x07, 0x04, 0x7E⟩)) = some (.word40 0x7E0307047E) := by decide

/-- CD16. -/
theorem test_unpack40 :
    value (.pack40 (.unpack 0x7E0303007E)) = some (.frame ⟨0x7E, 0x03, 0x03, 0x00, 0x7E⟩) := by decide

/-- The example of R141. -/
theorem test_parse_step_done :
    value (.parseStep .checksumOk 0x7E 0x03 0x03) = some (.parsed .done (some ⟨0x7E, 0x03, 0x03, 0x00, 0x7E⟩)) := by
  decide

/-- The example of R144. -/
theorem test_parse_step_wrong_control :
    value (.parseStep .addressReceived 0x03 0x03 0x07) = some (.parsed .start none) := by decide

/-! ## The parser on streams (V-P2) -/

/-- P-H: the frame restarts after ADDR. -/
theorem test_stream_restart : parseStates [0x7E, 0x03, 0x7E, 0x03, 0x03, 0x00, 0x7E] .start 0x03 0x03
      = [.flagReceived, .addressReceived, .flagReceived, .addressReceived, .controlReceived, .checksumOk, .done] := by
  decide

/-- P-A. -/
theorem test_stream_flag_in_address : parseStates [0x7E, 0x7E, 0x00, 0x7E, 0x7E] .start 0x7E 0x00
      = [.flagReceived, .flagReceived, .start, .flagReceived, .flagReceived] := by decide

/-- P-O. -/
theorem test_stream_shared_flag :
    parseStates [0x7E, 0x03, 0x03, 0x01, 0x7E, 0x03, 0x03, 0x00, 0x7E] .start 0x03 0x03
      = [.flagReceived, .addressReceived, .controlReceived, .start, .flagReceived, .addressReceived, .controlReceived, .checksumOk, .done] := by
  decide

/-! ## The commands (V-S, V-R) -/

/-- S16. -/
theorem test_nop_in_open : seen .nop rxOpen (fun r => r)
      = some rxOpen := by decide

/-- S1. -/
theorem test_open_in_open_is_ignored : seen (.openCmd .transmitter 3 3) rxOpen (fun r => r)
      = some rxOpen := by decide

/-- S14. -/
theorem test_open_in_closed :
    seen (.openCmd .transmitter 0 0) txFailed (fun r => (r.sess, r.err, r.stAbort, r.retryCnt, r.rstate, r.expC))
      = some (.openChan, .none, false, 0, .start, 0x07) := by decide

/-- The example of R228. -/
theorem test_close_in_open : seen .closeCmd rxOpen (fun r => (r.sess, (outputs r).chanCloseReq))
      = some (.closing, true) := by decide

/-- S2. -/
theorem test_close_in_open_wait_is_ignored : seen .closeCmd rxWait (fun r => r)
      = some rxWait := by decide

/-- S17 and R233. -/
theorem test_write_is_refused : exec .writeCmd (st rxOpen) = .refused (.reservedCommand 3) := rfl

/-- S17 and R233. -/
theorem test_read_is_refused : exec .readCmd (st rxOpen) = .refused (.reservedCommand 4) := rfl

/-- S17 and R233. -/
theorem test_rsvd5_is_refused : exec .rsvd5 (st rxOpen) = .refused (.reservedCommand 5) := rfl

/-- S17 and R233. -/
theorem test_rsvd6_is_refused : exec .rsvd6 (st rxOpen) = .refused (.reservedCommand 6) := rfl

/-- S17 and R233. -/
theorem test_rsvd7_is_refused : exec .rsvd7 (st rxOpen) = .refused (.reservedCommand 7) := rfl

/-! ## The events (V-P4, V-T, V-S, V-R) -/

/-- RS1, without the OPEN. -/
theorem test_rst : seen .rst rxOpen (fun r => r)
      = some Regs.reset := by decide

/-- Q1. -/
theorem test_rx_byte_dropped : seen (.rxByte 0x7E) rxOpen (fun r => r)
      = some rxOpen := by decide

/-- The example of R224; P1, c09. -/
theorem test_rx_byte_done :
    seen (.rxByte 0x7E) (atCO rxWait) (fun r => (r.sess, r.rstate, r.frmV, r.stDone, frameBytes r.txf))
      = some (.openAck, .done, true, true, [0x7E, 0x03, 0x07, 0x04, 0x7E]) := by decide

/-- T3. -/
theorem test_tick_counts : seen .tick (txRun 3 0 3) (fun r => (r.tmrSt, r.tmrCnt))
      = some (.run, 2) := by decide

/-- T7. -/
theorem test_tick_exhausts :
    seen .tick (txRun 1 0 0) (fun r => (r.sess, r.err, r.stAbort, r.retryCnt, r.tmrSt, r.txb))
      = some (.closing, .connectionTimeout, true, 1, .idle, false) := by decide

/-- S10. -/
theorem test_tx_ready_last_byte : seen .txReady (rxAck 4) (fun r => (r.sess, r.txb, r.txi))
      = some (.opened, false, 0) := by decide

/-- S15. -/
theorem test_tx_ready_with_nothing_offered : seen .txReady rxOpen (fun r => r)
      = some rxOpen := by decide

/-- S4. -/
theorem test_open_ack_transmitter :
    seen .openAck txChan (fun r => (r.sess, r.txb, r.txi, frameBytes r.txf, r.tmrSt))
      = some (.openWait, true, 0, [0x7E, 0x03, 0x03, 0x00, 0x7E], .pend) := by decide

/-- S5. -/
theorem test_open_ack_receiver :
    seen .openAck { rxWait with sess := .openChan } (fun r => (r.sess, r.txb, r.tmrSt))
      = some (.openWait, false, .idle) := by decide

/-- R222. -/
theorem test_open_fail : seen .openFail txChan (fun r => (r.sess, r.err))
      = some (.closed, .channelOpenFailed) := by decide

/-- The example of R229. -/
theorem test_close_ack : seen .closeAck rxClosing (fun r => (r.sess, r.err))
      = some (.closed, .none) := by decide

/-- S6. -/
theorem test_close_ack_while_sending : seen .closeAck { rxAck 3 with sess := .closing } (fun r => r)
      = some { rxAck 3 with sess := .closing } := by decide

/-- S7. -/
theorem test_chan_err_keeps_first_error :
    seen .chanErr { rxClosing with err := .connectionTimeout } (fun r => (r.sess, r.err))
      = some (.closed, .connectionTimeout) := by decide

/-- S8. -/
theorem test_chan_err_in_closing :
    seen .chanErr { rxAck 2 with sess := .closing } (fun r => (r.sess, r.err, r.txb, r.txi))
      = some (.closed, .channelIOFailed, false, 0) := by decide

/-! ## The frames -/

/-- E12. -/
theorem test_set_frame_at_receiver :
    seen .setFrame rxWait (fun r => (r.sess, r.rstate, r.txb, frameBytes r.txf))
      = some (.openAck, .done, true, [0x7E, 0x03, 0x07, 0x04, 0x7E]) := by decide

/-- P-I. -/
theorem test_set_frame_at_transmitter : seen .setFrame txPend (fun r => (r.sess, r.rstate))
      = some (.openWait, .flagReceived) := by decide

/-- R226. -/
theorem test_ua_frame_at_transmitter : seen .uaFrame txPend (fun r => (r.sess, r.tmrSt, r.txb))
      = some (.opened, .idle, true) := by decide

/-- P-J. -/
theorem test_ua_frame_at_receiver : seen .uaFrame rxWait (fun r => (r.sess, r.rstate))
      = some (.openWait, .flagReceived) := by decide

/-- CD14 and R94: an untyped frame is a mismatch. -/
theorem test_ctrl_frame : seen (.ctrlFrame 0x02 0x06) txPend (fun r => (r.sess, r.rstate, r.err))
      = some (.openWait, .flagReceived, .none) := by decide

/-! ## The micro-operations -/

/-- The example of R150. -/
theorem test_parser_reset : seen .parserReset (atCO rxWait) (fun r => r)
      = some rxWait := by decide

/-- P-Z. -/
theorem test_parse_step_cycle_no_byte :
    seen (.parseStepCycle .idle) { rxWait with rstate := .controlReceived } (fun r => (r.rstate, r.frmV))
      = some (.controlReceived, false) := by decide

/-- R160. -/
theorem test_parse_step_cycle_done :
    seen (.parseStepCycle (.onlyRx 0x7E)) (atCO rxWait) (fun r => (r.rstate, r.frmV, r.sess))
      = some (.done, true, .openWait) := by decide

/-- R172. -/
theorem test_timer_arm : seen .timerArm (txRun 2 0 3) (fun r => (r.tmrSt, r.tmrCnt))
      = some (.pend, 0) := by decide

/-- R174; T1. -/
theorem test_start_count : seen (.startCount txrTick) { txPend with txi := 4 } (fun r => (r.tmrSt, r.tmrCnt))
      = some (.run, 3) := by decide

/-- T4. -/
theorem test_timer_tick_without_tick : seen (.timerTick .idle) (txRun 1 0 3) (fun r => r)
      = some (txRun 1 0 3) := by decide

/-- T5. -/
theorem test_timer_tick_expires :
    seen (.timerTick .onlyTick) (txRun 1 1 3) (fun r => (r.retryCnt, r.tmrSt, r.tmrCnt, r.txb))
      = some (2, .pend, 0, true) := by decide

/-- The example of R178. -/
theorem test_timer_expire_resends :
    seen .timerExpire (txRun 1 1 3) (fun r => (r.retryCnt, r.sess, frameBytes r.txf))
      = some (2, .openWait, [0x7E, 0x03, 0x03, 0x00, 0x7E]) := by decide

/-- The example of R180. -/
theorem test_timer_expire_exhausts :
    seen .timerExpire (txRun 1 2 3) (fun r => (r.retryCnt, r.sess, r.err, r.stAbort))
      = some (3, .closing, .connectionTimeout, true) := by decide

/-- The example of R179. -/
theorem test_resend : seen .resend (txRun 1 0 3) (fun r => ((outputs r).txValid, (outputs r).txData, r.tmrSt))
      = some (true, 0x7E, .pend) := by decide

/-- R180. -/
theorem test_exhausted : seen .exhausted (txRun 1 3 3) (fun r => (r.sess, r.err, r.stAbort, r.retryCnt))
      = some (.closing, .connectionTimeout, true, 3) := by decide

/-- The example of R182. -/
theorem test_timer_disarm : seen .timerDisarm (txRun 2 1 3) (fun r => (r.tmrSt, r.tmrCnt, r.retryCnt))
      = some (.idle, 0, 1) := by decide

/-- R190; T3. -/
theorem test_timer_step_counts : seen (.timerStep .onlyTick false) (txRun 3 0 3) (fun r => (r.tmrSt, r.tmrCnt))
      = some (.run, 2) := by decide

/-- R190; T1. -/
theorem test_timer_step_starts : seen (.timerStep .onlyTick true) txPend (fun r => (r.tmrSt, r.tmrCnt))
      = some (.run, 3) := by decide

/-- The example of R201. -/
theorem test_tx_step_last_byte : seen (.txStep .onlyTxReady) (rxAck 4) (fun r => (r.txb, r.txi, r.sess))
      = some (false, 0, .openAck) := by decide

/-- The example of R202. -/
theorem test_tx_load : seen (.txLoad uaFrame) rxWait (fun r => ((outputs r).txValid, (outputs r).txData))
      = some (true, 0x7E) := by decide

/-- R225. -/
theorem test_accept_set : seen .acceptSet rxWait (fun r => (r.sess, frameBytes r.txf, r.txb))
      = some (.openAck, [0x7E, 0x03, 0x07, 0x04, 0x7E], true) := by decide

/-- The example of R226. -/
theorem test_accept_ua : seen .acceptUa (txRun 2 1 3) (fun r => (r.sess, r.retryCnt, r.tmrSt))
      = some (.opened, 1, .idle) := by decide

/-- The example of R254. -/
theorem test_error_exit :
    seen (.errorExit .channelIOFailed) { txPend with txi := 2 } (fun r => (r.sess, r.err, r.txb, r.txi, r.tmrSt))
      = some (.closing, .channelIOFailed, false, 0, .idle) := by decide

/-- T8. -/
theorem test_step_reply_beats_expiry :
    seen (.step { (Input.onlyTick : Input) with rxValid := true, rxData := 0x7E }) (atCO (txRun 1 2 3))
      (fun r => (r.sess, r.rstate, r.frmV, r.stDone, r.tmrSt, r.retryCnt))
      = some (.opened, .done, true, true, .idle, 2) := by decide

/-- T10. -/
theorem test_step_channel_error_first :
    seen (.step { (Input.onlyChanErr : Input) with tick := true, rxValid := true, rxData := 0x7E }) (atCO (txRun 1 2 3))
      (fun r => (r.sess, r.err, r.rstate, r.retryCnt, r.stAbort))
      = some (.closing, .channelIOFailed, .checksumOk, 2, false) := by decide

/-- S11: the channel takes 0x07 in the cycle of the error. -/
theorem test_taken_byte_with_error :
    takenByte (rxAck 2) { (Input.onlyChanErr : Input) with txReady := true } = some 0x07 := by decide

/-- RS2. -/
theorem test_reset_outputs : (outputs (Regs.reset : Regs)).frmData = 0x7E0000007E := by decide

/-- R236. -/
theorem test_open_result :
    openResult rxOpen = .succeeded ∧ openResult { txChan with sess := .closed, err := .channelOpenFailed }
      = .failed .channelOpenFailed := by decide

/-- R237. -/
theorem test_close_result : closeResult { rxClosing with sess := .closed } = .succeeded := by decide

/-- R253 and spec/93 #5. -/
theorem test_error_exit_protocol_violation :
    exec (.errorExit .protocolViolation) (st rxOpen) = .refused .protocolViolationRaised := rfl

/-! ## Other widths (R10) -/

/-- R103: with `W_TMR = 32` and `W_RETRY = 4` the configuration fields stand at [55:24] and [59:56]. -/
theorem test_wide_input_layout :
    (Input.onlyOpen .receiver 1 1 : Input 32 4).toWord = 0x0100000001000026 := by decide

/-- R178 and R180 with one-bit counters: the first expiry exhausts. -/
theorem test_one_bit_retry_counter : (cycle .onlyTick { (Regs.reset : Regs 1 1) with
      maxr := 1, sess := .openWait, tmrSt := .run, tmrCnt := 1 }).retryCnt = 1 := by decide

/-! ## Witnesses of the statements' hypotheses -/

theorem test_witness_StepRuns_queued :
    ((st rxOpen).withFetchWord 16 0xA).stim = .cycle 0x00000000000A :: [] ∧
      decode (.cycle 0x00000000000A) = .ok .closeCmd := ⟨rfl, rfl⟩

theorem test_witness_StepRuns_refused :
    ((st rxOpen).withFetchWord 24 0x200000).stim = .cycle 0x200000 :: [] ∧
      decode (.cycle 0x200000) = .error .reservedInputBits := ⟨rfl, rfl⟩

theorem test_witness_StepRuns_nothing_queued :
    State.reset.stim = [] := by decide

theorem test_witness_DecodeInvertsEncode_cycle :
    (Instr.openCmd .receiver 0xFFFF 0xFF).wellFormed = true ∧
      encode (.openCmd .receiver 0xFFFF 0xFF) = some (.cycle 0xFFFFFF000026) := by decide

theorem test_witness_DecodeInvertsEncode_frame :
    (Instr.ctrlFrame 0x03 0x06).wellFormed = true ∧
      encode (.ctrlFrame 0x03 0x06) = some (.frame 0x7E0306057E) := by decide

theorem test_witness_DecodeInvertsEncode_step :
    (Instr.step txrTick).wellFormed = true ∧ encode (.step txrTick) = some (.cycle 0x000000018000) := by decide

theorem test_witness_EncodeInvertsDecode_cycle :
    decode (.cycle 0x000000018000) = .ok (.step txrTick) := rfl

theorem test_witness_EncodeInvertsDecode_frame :
    decode (.frame 0x7E0306057E) = .ok (.ctrlFrame 0x03 0x06) := rfl

theorem test_witness_InputVectorLayout_reserved :
    (0x000000200000 : InWord).extractLsb' 21 3 ≠ 0#3 ∧ (0xFFFFFFFFFFFF : InWord).extractLsb' 21 3 ≠ 0#3 := by
  decide

theorem test_witness_InputVectorLayout_clear :
    (0xFFFFFF1FFFFF : InWord).extractLsb' 21 3 = 0#3 := by decide

theorem test_witness_CodecAndParserAgree_L3 :
    decodeFrame ⟨0x7E, 0x7E, 0x00, 0x7E, 0x7E⟩ = some (0x7E, 0x00) := by decide

theorem test_witness_CodecAndParserAgree_L4 :
    parseEnd (frameBytes uaFrame) .start 0x03 0x07 = .done ∧
      (parseFrames (frameBytes uaFrame) .start 0x03 0x07).length = 1 ∧
      decodeFrame uaFrame = some (0x03, 0x07) ∧ (0x03 : Byte) ≠ 0x7E ∧ (0x07 : Byte) ≠ 0x7E ∧ (0x03 ^^^ 0x07 : Byte) ≠ 0x7E := by
  decide

theorem test_witness_CodecAndParserAgree_L5 :
    decodeFrame uaFrame ≠ none ∧ (0x02 : Byte) ≠ uaFrame.addr ∧ (0x06 : Byte) ≠ uaFrame.ctrl ∧
      (0x05 : Byte) ≠ uaFrame.bcc ∧ ((0x02, 0x06) : Byte × Byte) ≠ (0x03, 0x07) := by decide

theorem test_witness_ParserRows_flag :
    RState.done ≠ .checksumOk := by decide

theorem test_witness_Reachable_open :
    let before : List Input := [.onlyRst, .onlyTick]
    let inp : Input := Input.onlyOpen .receiver 0 0
    inp.rst = false ∧ (runCycles before (Regs.reset : Regs)).sess = .closed ∧ presents inp 1 ∧
      ∀ i ∈ [(Input.onlyOpenAck : Input), .onlyChanErr], i.rst = false := by decide

theorem test_witness_DoneActsAsStart_flag :
    RState.controlReceived ≠ .checksumOk ∧ RState.start ≠ .checksumOk := by decide

theorem test_witness_VerifiedFrame_done :
    parseEnd [0xFF, 0x7E, 0x03, 0x07, 0x04, 0x7E] .start 0x03 0x07 = .done := by decide

theorem test_witness_CorruptedFrame_first_byte :
    (0x03 : Byte) ≠ 0x7E ∧ (0x07 : Byte) ≠ 0x7E ∧ (0x03 ^^^ 0x07 : Byte) ≠ 0x7E ∧
      (0x7F : Byte) ≠ frameByte (buildFrame 0x03 0x07) 0 := by decide

theorem test_witness_CorruptedFrame_last_byte :
    (0x03 : Byte) ≠ 0x7E ∧ (0x03 ^^^ 0x03 : Byte) ≠ 0x7E ∧ (0x7F : Byte) ≠ frameByte (buildFrame 0x03 0x03) 4 := by
  decide

theorem test_witness_NoiseAndBackToBackFrames :
    (0x03 : Byte) ≠ 0x7E ∧ (0x03 ^^^ 0x03 : Byte) ≠ 0x7E ∧ ∀ b ∈ ([0xFF, 0xFF] : List Byte), b ≠ 0x7E := by
  decide

theorem test_witness_UnrecognisablePair_address :
    ((0x7E : Byte) = 0x7E ∨ (0x00 : Byte) = 0x7E ∨ (0x7E ^^^ 0x00 : Byte) = 0x7E) ∧
      .flagReceived ∈ parseStates (frameBytes (buildFrame 0x7E 0x00)) .start 0x7E 0x00 := by decide

theorem test_witness_UnrecognisablePair_control :
    ((0x03 : Byte) = 0x7E ∨ (0x7E : Byte) = 0x7E ∨ (0x03 ^^^ 0x7E : Byte) = 0x7E) ∧
      .addressReceived ∈ parseStates (frameBytes (buildFrame 0x03 0x7E)) .start 0x03 0x7E := by decide

theorem test_witness_UnrecognisablePair_bcc :
    ((0x03 : Byte) = 0x7E ∨ (0x7D : Byte) = 0x7E ∨ (0x03 ^^^ 0x7D : Byte) = 0x7E) ∧
      .controlReceived ∈ parseStates (frameBytes (buildFrame 0x03 0x7D)) .start 0x03 0x7D := by decide

theorem test_witness_ReceivedByteInOpenWait_other :
    (st rxWait).regs.sess = .openWait ∧ (st rxWait).regs.rstate ≠ .checksumOk := by decide

theorem test_witness_ReceivedByteInOpenWait_done :
    (st (atCO txPend)).regs.sess = .openWait ∧
      (st (atCO txPend)).regs.rstate = .checksumOk := by decide

theorem test_witness_OtherReceivedBytes_state :
    (st rxOpen).regs.sess ≠ .openWait := by decide

theorem test_witness_OtherReceivedBytes_error :
    rxWait.sess = .openWait ∧ (rxClosing.sess ≠ .openWait ∨ (Input.idle : Input).chanErr = true) ∧
      (rxWait.sess ≠ .openWait ∨ (Input.onlyChanErr : Input).chanErr = true) := by decide

theorem test_witness_OnlyBytesAndOpen_consumed :
    (Input.onlyRx 0x7E : Input).rst = false ∧ ¬ (rxWait.sess = .closed ∧ presents (.onlyRx 0x7E) 1) ∧
      (Input.onlyRx 0x7E : Input).rxValid = true ∧ rxWait.sess = .openWait ∧ (Input.onlyRx 0x7E : Input).chanErr = false := by
  decide

theorem test_witness_OnlyBytesAndOpen_open_elsewhere :
    (Input.onlyOpen .receiver 0 0 : Input).rst = false ∧
      ¬ (rxOpen.sess = .closed ∧ presents (.onlyOpen .receiver 0 0) 1) := by decide

theorem test_witness_FrameValid_pulse :
    (cycle (.onlyRx 0x7E) (atCO rxWait)).frmV = true ∧ (Input.onlyRx 0x7E : Input).rst = false ∧
      (atCO rxWait).sess = .openWait ∧ (Input.onlyRx 0x7E : Input).chanErr = false ∧ confirms (.onlyRx 0x7E) (atCO rxWait) := by
  decide

theorem test_witness_ParserMicroOperations :
    (st (atCO rxWait)).regs.sess = .openWait ∧
      (Input.onlyRx 0x7E : Input).rxValid = true ∧ (Input.onlyRx 0x7E : Input).chanErr = false := by decide

theorem test_witness_CountingStarts_micro :
    (st { txPend with txi := 4 }).regs.tmrSt = .pend ∧
      lastTaken txrTick { txPend with txi := 4 } ∧ ¬ higher txrTick { txPend with txi := 4 } := by decide

theorem test_witness_CountingStarts_preempted :
    lastTaken { txrTick with chanErr := true } { txPend with txi := 4 } ∧
      higher { txrTick with chanErr := true } { txPend with txi := 4 } := by decide

theorem test_witness_CountingStarts_cycle :
    txPend.sess = .openWait ∧ txPend.role = .transmitter ∧ txPend.tmrSt = .pend ∧ txrTick.rst = false ∧
      txrTick.chanErr = false ∧ ¬ confirms txrTick { txPend with txi := 4 } ∧ lastTaken txrTick { txPend with txi := 4 } := by
  decide

theorem test_witness_TickCounts_down :
    (txRun 2 0 3).tmrSt = .run ∧ (Input.onlyTick : Input).tick = true ∧
      ¬ higher .onlyTick (txRun 2 0 3) ∧ 2 ≤ (txRun 2 0 3).tmrCnt.toNat := by decide

theorem test_witness_TickCounts_expires_at_1 :
    (txRun 1 0 3).tmrSt = .run ∧ (Input.onlyTick : Input).tick = true ∧
      ¬ higher .onlyTick (txRun 1 0 3) ∧ (txRun 1 0 3).tmrCnt.toNat ≤ 1 := by decide

theorem test_witness_TickCounts_expires_at_0 :
    (txRun 0 0 3).tmrSt = .run ∧ (Input.onlyTick : Input).tick = true ∧
      ¬ higher .onlyTick (txRun 0 0 3) ∧ (txRun 0 0 3).tmrCnt.toNat ≤ 1 := by decide

theorem test_witness_TickCounts_unchanged :
    txPend.tmrSt ≠ .run ∧ (Input.idle : Input).tick = false ∧
      higher { (Input.onlyTick : Input) with chanErr := true } (txRun 1 0 3) := by decide

theorem test_witness_TickIsIgnored :
    txPend.tmrSt ≠ .run ∧ rxWait.tmrSt ≠ .run := by decide

theorem test_witness_ExpiryResends_last_below_maximum :
    ¬ (3 : Retries).toNat ≤ (txRun 1 1 3).retryCnt.toNat + 1 := by decide

theorem test_witness_ExpiryResends_exhausts :
    (3 : Retries).toNat ≤ (txRun 1 2 3).retryCnt.toNat + 1 ∧
      (txRun 1 2 3).retryCnt.toNat + 1 < 2 ^ Config.wRetry := by decide

theorem test_witness_ExpiryResends_past_top :
    ¬ (txRun 1 255 3).retryCnt.toNat + 1 < 2 ^ Config.wRetry := by decide

theorem test_witness_TickEvent :
    (txRun 2 0 3).sess = .openWait ∧ (txRun 2 0 3).role = .transmitter ∧
      (txRun 2 0 3).tmrSt = .run ∧ 2 ≤ (txRun 2 0 3).tmrCnt.toNat := by decide

theorem test_witness_TimerCounts_zero :
    let r : Regs := { txRun 0 0 1 with timeout := 0 }
    r.sess = .openWait ∧ r.role = .transmitter ∧ r.tmrSt = .run ∧ r.tmrCnt = r.timeout ∧
      r.retryCnt.toNat < max r.maxr.toNat 1 := by decide

theorem test_witness_TimerCounts_three :
    let r := txRun 3 2 3
    r.sess = .openWait ∧ r.role = .transmitter ∧ r.tmrSt = .run ∧ r.tmrCnt = r.timeout ∧
      r.retryCnt.toNat < max r.maxr.toNat 1 := by decide

theorem test_witness_TimerStepAndTxStep :
    lastTaken txrTick { txPend with txi := 4 } := by decide

theorem test_witness_CycleInOpenWait :
    let i : Input := { txrTick with cmdValid := true, cmdOp := 2 }
    i.rst = false ∧ ¬ reserved i ∧ (st txPend).regs.sess = .openWait := by decide

theorem test_witness_CycleInTheOtherStates :
    let i : Input := { txrTick with cmdValid := true, cmdOp := 2, chanErr := true }
    i.rst = false ∧ ¬ reserved i ∧ ∀ r ∈ [Regs.reset, txChan, rxAck 4, rxOpen, rxClosing],
      (st r).regs.sess ≠ .openWait := by decide

theorem test_witness_CommandsInEveryState :
    (st Regs.reset).regs.sess = .closed ∧ (st rxOpen).regs.sess = .opened := by decide

theorem test_witness_IllegalCommands_open :
    (rxOpen.sess ≠ .closed ∨ (Input.idle : Input).rst = true) ∧ ((Regs.reset : Regs).sess ≠ .closed ∨ (Input.onlyRst : Input).rst = true) := by
  decide

theorem test_witness_IllegalCommands_close :
    (rxWait.sess ≠ .opened ∨ (Input.idle : Input).rst = true) ∧ (rxOpen.sess ≠ .opened ∨ (Input.onlyRst : Input).rst = true) := by
  decide

theorem test_witness_ReservedCommands :
    reserved (.onlyCmd 3) ∧ reserved (.onlyCmd 7) ∧ ¬ reserved (.onlyCmd 2) := by decide

theorem test_witness_ChannelOpenAnswers :
    (st txChan).regs.sess = .openChan ∧ (st rxOpen).regs.sess ≠ .openChan := by decide

theorem test_witness_CloseAckAndChannelError :
    (st rxClosing).regs.sess = .closing ∧ (st rxClosing).regs.txb = false := by decide

theorem test_witness_TransmitReady :
    (st (rxAck 4)).regs.txb = true ∧ (st (rxAck 4)).regs.txi = 4 ∧
      (st (rxAck 4)).regs.sess = .openAck := by decide

theorem test_witness_UnaskedAnswers :
    rxOpen.sess ≠ .openChan ∧ (rxOpen.sess ≠ .closing ∨ rxOpen.txb = true) ∧ rxOpen.txb = false ∧
      ({ rxAck 3 with sess := .closing }.sess ≠ .closing ∨ (rxAck 3).txb = true) := by decide

theorem test_witness_ResetReplaces_with_open :
    let i : Input := { Input.onlyOpen .transmitter 3 3 with rst := true }
    i.rst = true ∧ ¬ reserved i := by decide

theorem test_inv_transmitter_waiting : (txRun 1 2 3).Inv := by constructor <;> decide

theorem test_inv_receiver_answering : (rxAck 4).Inv := by constructor <;> decide

theorem test_inv_error_recorded : ({ rxClosing with err := .channelIOFailed } : Regs).Inv := by
  constructor <;> decide

theorem test_witness_CycleKeeps_one_bit :
    ({ (Regs.reset : Regs 1 1) with
      maxr := 1, sess := .openWait, expA := 0x03, expC := 0x07, tmrSt := .run, timeout := 1,
      tmrCnt := 1 } : Regs 1 1).Inv := by
  constructor <;> decide

theorem test_witness_InputVectorLayout_narrow :
    (0x3F1FFFFF : InWord 4 2).extractLsb' 21 3 = 0#3 := by decide

theorem test_witness_StepKeeps :
    (st (txRun 1 2 3)).regs.Inv ∧
      step ((st (txRun 1 2 3)).withFetchWord 16 0x8000) = .next (st (cycle .onlyTick (txRun 1 2 3))) :=
  ⟨test_inv_transmitter_waiting, rfl⟩

theorem test_witness_OnlySetAndUa_set :
    takenByte (runCycles [.onlyOpen .transmitter 3 3, .onlyOpenAck] (Regs.reset : Regs)) .onlyTxReady = some 0x7E := by
  decide

theorem test_witness_OnlySetAndUa_ua :
    takenByte (runCycles ([.onlyOpen .receiver 0 0, .onlyOpenAck] ++ rxCycles [0x7E, 0x03, 0x03, 0x00, 0x7E]
      ++ [.onlyTxReady, .onlyTxReady]) (Regs.reset : Regs)) .onlyTxReady = some 0x07 := by decide

theorem test_witness_ProtocolViolationNever :
    exec .chanErr (st rxOpen) = .next (st { rxClosing with err := .channelIOFailed }) := rfl

theorem test_witness_FirstErrorIsKept :
    let r : Regs := { rxClosing with err := .channelIOFailed }
    r.Inv ∧ r.err ≠ .none ∧ (Input.onlyChanErr : Input).rst = false ∧
      ¬ (r.sess = .closed ∧ presents .onlyChanErr 1) := ⟨test_inv_error_recorded, by decide⟩

theorem test_witness_Configuration_open :
    let i : Input := Input.onlyOpen .receiver 0xFFFF 0xFF
    i.rst = false ∧ (Regs.reset : Regs).sess = .closed ∧ presents i 1 := by decide

theorem test_witness_Configuration_other :
    (Input.onlyTick : Input).rst = false ∧ ¬ ((Regs.reset : Regs).sess = .closed ∧ presents .onlyTick 1) := by
  decide

theorem test_witness_StickyFlags_cleared :
    ((Input.onlyRst : Input).rst = true ∨ (rxOpen.sess = .closed ∧ presents .onlyRst 1)) ∧
      ((Input.onlyOpen .receiver 0 0 : Input).rst = true ∨ ((Regs.reset : Regs).sess = .closed ∧ presents (.onlyOpen .receiver 0 0) 1)) := by
  decide

theorem test_witness_StickyFlags_set :
    let i : Input := Input.onlyTick
    let r := txRun 1 2 3
    i.rst = false ∧ ¬ (r.sess = .closed ∧ presents i 1) ∧ (cycle i r).stAbort = true ∧ r.stAbort = false := by
  decide

theorem test_witness_CountersNeverWrap_expiry :
    (txRun 1 2 3).Inv ∧ (cycle .onlyTick (txRun 1 2 3)).retryCnt.toNat = (txRun 1 2 3).retryCnt.toNat + 1 :=
  ⟨test_inv_transmitter_waiting, by decide⟩

theorem test_witness_CountersNeverWrap_cleared :
    (Regs.reset : Regs).Inv ∧ (Regs.reset : Regs).sess = .closed ∧ presents (.onlyOpen .receiver 0 0) 1 :=
  ⟨by constructor <;> decide, by decide⟩

theorem test_witness_Waits_receiver :
    let ins := [(Input.onlyTick : Input), .onlyRx 0x7E]
    (∀ i ∈ ins, i.rst = false ∧ i.chanErr = false) ∧ rxWait.sess = .openWait ∧ rxWait.role = .receiver ∧
      ∀ k < ins.length, (runCycles (ins.take (k + 1)) rxWait).frmV = false := by decide

theorem test_witness_Waits_open_channel :
    txChan.sess = .openChan ∧
      ∀ i ∈ [(Input.onlyTick : Input), .onlyChanErr], i.rst = false ∧ i.chanOpenAck = false ∧ i.chanOpenFail = false := by
  decide

theorem test_witness_Waits_closing :
    rxClosing.sess = .closing ∧
      ∀ i ∈ [(Input.onlyTick : Input), .onlyOpen .receiver 0 0], i.rst = false ∧ i.chanErr = false ∧ i.chanCloseAck = false := by
  decide

theorem test_witness_Waits_sending :
    (rxAck 4).Inv ∧ (rxAck 4).txb = true ∧
      ∀ i ∈ [(Input.onlyTick : Input), .onlyRx 0x7E], i.rst = false ∧ i.chanErr = false ∧ i.txReady = false :=
  ⟨test_inv_receiver_answering, by decide⟩

theorem test_witness_Waits_transmitter :
    let ins := [(Input.onlyTxReady : Input), .onlyRx 0x7E]
    txPend.sess = .openWait ∧ txPend.role = .transmitter ∧
      (∀ i ∈ ins, i.rst = false ∧ i.chanErr = false ∧ i.tick = false) ∧
      ∀ k < ins.length, (runCycles (ins.take (k + 1)) txPend).frmV = false := by decide

theorem test_witness_LinkStateTransitions :
    (Input.onlyTick : Input).rst = false := by decide

theorem test_witness_AwaitedFrame_set :
    rxWait.sess = .openWait ∧ rxWait.expA = 0x03 ∧ rxWait.rstate ≠ .checksumOk ∧
      rxWait.role = .receiver ∧ rxWait.expC = 0x03 := by decide

theorem test_witness_AwaitedFrame_ua :
    txPend.sess = .openWait ∧ txPend.expA = 0x03 ∧ txPend.rstate ≠ .checksumOk ∧
      txPend.role = .transmitter ∧ txPend.expC = 0x07 := by decide

theorem test_witness_OtherFrames_mismatch :
    txPend.sess = .openWait ∧ txPend.expA = 0x03 ∧ txPend.rstate ≠ .checksumOk ∧
      txPend.expC = 0x07 ∧ rxWait.expC = 0x03 ∧ ¬ ((0x02 : Byte) = 0x03 ∧ (0x06 : Byte) = txPend.expC) := by
  decide

theorem test_witness_OtherFrames_dropped :
    (st rxOpen).regs.sess ≠ .openWait := by decide

theorem test_witness_ExactlyMaxRetry_zero :
    let ins : List Input := List.replicate 5 .onlyTxReady ++ [.onlyTick]
    (∀ i ∈ ins, i.rst = false ∧ i.chanErr = false ∧ i.chanCloseAck = false) ∧
      (runCycles ins (freshTransmitter 1 0)).sess = .closing ∧ (runCycles ins (freshTransmitter 1 0)).stDone = false := by
  decide

theorem test_witness_ExactlyMaxRetry_two :
    let half : List Input := List.replicate 5 .onlyTxReady ++ [.onlyTick]
    let ins := half ++ half
    (∀ i ∈ ins, i.rst = false ∧ i.chanErr = false ∧ i.chanCloseAck = false) ∧
      (runCycles ins (freshTransmitter 1 2)).sess = .closing ∧ (runCycles ins (freshTransmitter 1 2)).stDone = false := by
  decide

theorem test_witness_RetransmissionEnds :
    0 < max (0 : Retries).toNat 1 * (5 + max (0 : Ticks).toNat 1) := by decide

end Sys2Proof.Tests
end

section
/-! The invariants of R50 are kept by every operation of a cycle, and so by a cycle, at every width (R10).

Each rule takes the state `n` that is being written. `{ h with … }` keeps the clauses that speak of registers the
operation does not write, and names those it has to prove. -/

namespace Sys2Proof.Machine

open Sys2Proof.Laws

variable {wTmr wRetry : Nat} {s n : Regs wTmr wRetry} {inp : Input wTmr wRetry}

/-- INV1 holds of every state, because the unused codes are left out of the types (R105). -/
theorem codes_in_range (r : Regs wTmr wRetry) :
    (sessCode r.sess).toNat ≤ 5 ∧ (rstateCode r.rstate).toNat ≤ 5 ∧ (tmrCode r.tmrSt).toNat ≤ 2 ∧
      (errCode r.err).toNat ≤ 3 := by
  refine ⟨?_, ?_, ?_, ?_⟩
  · cases r.sess <;> decide
  · cases r.rstate <;> decide
  · cases r.tmrSt <;> decide
  · cases r.err <;> decide

theorem inv_reset : (Regs.reset : Regs wTmr wRetry).Inv where
  inv1 := codes_in_range _
  inv2 _ := rfl
  inv3 := by simp [Regs.reset]
  inv4 := by simp [Regs.reset]
  inv5 := by simp [Regs.reset]
  inv6 _ _ := rfl
  inv7 := by simp [Regs.reset]
  inv8 := by simp [Regs.reset]
  inv9 _ := rfl
  inv10 := by simp [Regs.reset]
  inv11 := by simp [Regs.reset]
  inv12 := .inl ⟨rfl, rfl, rfl⟩
  inv13 := by simp [Regs.reset]
  inv14 := by simp [Regs.reset]
  fresh := by simp [Regs.reset]
  sender := by simp [Regs.reset]

/-! The transmitter and the parser. -/

theorem Regs.Inv.after_clearFrameValid (h : n.Inv) : (clearFrameValid n).Inv :=
  { h with inv7 := nofun }

theorem Regs.Inv.after_dropFrame (h : n.Inv) : (dropFrame n).Inv :=
  { h with
    inv2 := fun _ => rfl
    inv4 := fun hrun => ⟨rfl, (h.inv4 hrun).2⟩
    inv9 := fun _ => rfl
    inv10 := nofun
    inv14 := fun hs hr => ⟨(h.inv14 hs hr).1, rfl, (h.inv14 hs hr).2.2⟩
    sender := nofun }

theorem Regs.Inv.after_transmit (h : n.Inv) (hb : n.txb = s.txb) : (transmit inp s n).Inv := by
  unfold transmit
  split
  case isFalse => exact h
  case isTrue ht =>
    split
    · exact h.after_dropFrame
    · have hsending : n.txb = true := by simp_all [txAccepted]
      exact { h with inv2 := by simp [hsending] }

/-- `FRM_V` is written 1 with `RSTATE = Done` only (R160). -/
theorem parseCycle_rstate_of_frmV (h : (parseCycle inp s n).frmV = true) : (parseCycle inp s n).rstate = .done := by
  rw [parseCycle_eq] at h ⊢
  obtain ⟨b, hb, hnext⟩ := doneEvent_iff.1 h
  simpa [hb, parseStep_fst] using hnext

theorem Regs.Inv.after_parseCycle (h : n.Inv) : (parseCycle inp s n).Inv := by
  have hdone := parseCycle_rstate_of_frmV (inp := inp) (s := s) (n := n)
  rw [parseCycle_eq] at hdone ⊢
  exact { h with inv1 := codes_in_range _, inv7 := hdone }

/-- `EXP_A` and `EXP_C` are those of the role (the second case of INV12). -/
def Regs.Expects (s : Regs wTmr wRetry) : Prop :=
  s.expA = 0x03 ∧ s.expC = if s.role = .transmitter then 0x07 else 0x03

/-- INV12 outside `CLOSED`: the parser awaits the frame of the role (R40). -/
theorem Regs.Inv.expects (h : n.Inv) (hn : n.sess ≠ .closed) : n.Expects :=
  h.inv12.resolve_left fun hc => hn hc.1

/-- An accepted OPEN writes the pair of its role (R40, R221). -/
theorem expects_openAccept : (openAccept inp n).Expects :=
  ⟨rfl, by cases hc : inp.cfgRole <;> simp [hc, awaitedCtrl, cUa, cSet]⟩

/-! The ends of a wait: the sessions `OPEN`, `CLOSING` and `CLOSED`, where no timer is armed. -/

/-- With the timer disarmed, a session can move to `OPEN` if it has no error, to `CLOSING`, and to `CLOSED` once
nothing is being sent. No invariant constrains `TMR_CNT` and `ST_DONE` there. -/
theorem Regs.Inv.settle {t : Sess} (h : n.Inv) (hn : n.sess ≠ .closed)
    (ht : t = .opened ∧ n.err = .none ∨ t = .closing ∨ t = .closed ∧ n.txb = false) (cnt : Ticks wTmr)
    (done : Bool) : { n with sess := t, tmrSt := .idle, tmrCnt := cnt, stDone := done : Regs wTmr wRetry }.Inv where
  inv1 := codes_in_range _
  inv2 := h.inv2
  inv3 := by simp
  inv4 := by simp
  inv5 := by rintro rfl; simp at ht
  inv6 := by rcases ht with ⟨-, he⟩ | rfl | ⟨rfl, -⟩ <;> simp_all
  inv7 := h.inv7
  inv8 := by rintro rfl; simp at ht
  inv9 := by rcases ht with ⟨rfl, -⟩ | rfl | ⟨-, hb⟩ <;> simp_all
  inv10 := h.inv10
  inv11 := h.inv11
  inv12 := .inr (h.expects hn)
  inv13 := by rintro rfl; simp at ht
  inv14 := by rintro rfl; simp at ht
  fresh := by rintro rfl; simp at ht
  sender := h.sender

/-- Where the timer is idle already, `settle` writes `SESS` only. -/
theorem Regs.Inv.settle_sess {t : Sess} (h : n.Inv) (hn : n.sess ≠ .closed) (hidle : n.tmrSt = .idle)
    (ht : t = .opened ∧ n.err = .none ∨ t = .closing ∨ t = .closed ∧ n.txb = false) :
    { n with sess := t : Regs wTmr wRetry }.Inv := by
  simpa [← hidle] using h.settle hn ht n.tmrCnt n.stDone

theorem Regs.Inv.tmrSt_idle (h : n.Inv) (hs : n.sess ≠ .openWait) : n.tmrSt = .idle :=
  of_not_not fun hne => hs (h.inv3 hne).1

/-- Recording an error writes `ERR` only, and only while it holds `NONE` (R255). -/
theorem recordError_eq (code : Err) (s n : Regs wTmr wRetry) :
    recordError code s n = { n with err := if s.err = .none then code else n.err } := by
  unfold recordError
  split <;> rfl

/-- Recording an error (R255) on the way out of a session. -/
theorem Regs.Inv.after_recordError (h : n.Inv) (hs : n.sess = .closing ∨ n.sess = .closed) (code : Err) :
    { n with err := if n.err = .none then code else n.err : Regs wTmr wRetry }.Inv :=
  { h with
    inv1 := codes_in_range _
    inv6 := fun hc hcl => (hs.elim hcl hc).elim
    inv11 := fun ha => by simp [h.inv11 ha] }

/-- The error entry (R254), from every session that has left `CLOSED`. -/
theorem Regs.Inv.after_errorEntry (h : n.Inv) (hn : n.sess ≠ .closed) (he : n.err = s.err) (code : Err) :
    (errorEntry code s n).Inv := by
  rw [errorEntry_eq, ← he]
  exact (h.after_dropFrame.settle hn (.inr (.inl rfl)) 0 n.stDone).after_recordError (.inl rfl) code

/-! The timer, in a transmitter that waits for UA. -/

/-- SET is loaded and the timer armed: when the channel opens (R222) and at each retransmission (R179), in both cases
with a retry count below the maximum. -/
theorem Regs.Inv.after_resendSet (h : n.Inv) (hs : n.sess = .openChan ∨ n.sess = .openWait)
    (hr : n.role = .transmitter) {c : Retries wRetry} (hc : c.toNat < max n.maxr.toNat 1) :
    (resendSet { n with sess := .openWait, retryCnt := c }).Inv := by
  have hopen : n.sess ≠ .closed := by rintro hc; simp [hc] at hs
  have hbusy : n.sess ≠ .closing := by rintro hc; simp [hc] at hs
  exact { h with
    inv1 := codes_in_range _
    inv2 := nofun
    inv3 := fun _ => ⟨rfl, hr⟩
    inv4 := nofun
    inv5 := fun _ _ => hc
    inv6 := fun _ _ => h.inv6 hopen hbusy
    inv8 := nofun
    inv9 := nofun
    inv10 := fun _ => .inl rfl
    inv12 := .inr (h.expects hopen)
    inv13 := fun _ _ => ⟨nofun, hs.elim (fun hs => (h.fresh hs).2) fun hs => (h.inv13 hs hr).2⟩
    inv14 := fun _ hrx => by simp [hr] at hrx
    fresh := nofun
    sender := fun _ => (if_pos hr).symm }

/-- An expiry (R178): the counter stays below the maximum, or the session is given up with the error
ConnectionTimeout (R180). -/
theorem Regs.Inv.after_expire (h : n.Inv) (hs : n.sess = .openWait) (hr : n.role = .transmitter)
    (he : n.err = s.err) (hm : n.maxr = s.maxr) : (expire s n).Inv := by
  rw [expire_eq]
  split
  case isTrue =>
    have hentry := h.after_errorEntry (by simp [hs]) he .connectionTimeout
    have hnone : s.err = .none := he ▸ h.inv6 (by simp [hs]) (by simp [hs])
    rw [errorEntry_eq] at hentry ⊢
    exact { hentry with inv5 := nofun, inv11 := fun _ => if_pos hnone, fresh := nofun }
  case isFalse hlt =>
    have hfits : s.retryCnt.toNat + 1 < 2 ^ wRetry := by have := s.maxr.isLt; omega
    have hcount : (nextRetry s).toNat = s.retryCnt.toNat + 1 := by
      have hone : 1 < 2 ^ wRetry := by omega
      simp [nextRetry, expiries, hfits, Nat.mod_eq_of_lt, hone]
    have hresend := h.after_resendSet (c := nextRetry s) (.inr hs) hr (by rw [hcount, hm]; omega)
    rwa [← hs] at hresend

/-- The registers that the timer and the error entry read at the start of the cycle, which TX_STEP and the parser
do not write. -/
structure SameLink (s n : Regs wTmr wRetry) : Prop where
  role : n.role = s.role
  timeout : n.timeout = s.timeout
  maxr : n.maxr = s.maxr
  sess : n.sess = s.sess
  err : n.err = s.err
  tmrSt : n.tmrSt = s.tmrSt
  tmrCnt : n.tmrCnt = s.tmrCnt

theorem sameLink_transmit : SameLink s (transmit inp s (clearFrameValid s)) := by
  rw [transmit_eq]
  constructor <;> rfl

theorem SameLink.parseCycle (hn : SameLink s n) : SameLink s (parseCycle inp s n) := by
  obtain ⟨hrole, htimeout, hmaxr, hsess, herr, htmrSt, htmrCnt⟩ := hn
  rw [parseCycle_eq]
  constructor <;> assumption

/-- TIMER_STEP (R190): start, expire, count, or nothing. -/
theorem Regs.Inv.after_timerCycle (h : n.Inv) (hn : SameLink s n) (hs : n.sess = .openWait)
    (hr : n.role = .transmitter) {txdone : Bool} (hd : txdone = true → n.txb = false) :
    (timerCycle inp txdone s n).Inv := by
  unfold timerCycle
  split
  case isTrue hstart =>
    rw [startCounting, if_pos hstart]
    exact { h with
      inv1 := codes_in_range _
      inv3 := fun _ => ⟨hs, hr⟩
      inv4 := fun _ => ⟨hd hstart.2, hn.timeout ▸ le_rfl⟩
      inv13 := fun _ _ => ⟨nofun, (h.inv13 hs hr).2⟩
      inv14 := fun _ hrx => by simp [hr] at hrx }
  case isFalse =>
    unfold countTick
    split
    case isFalse => exact h
    case isTrue hcount =>
      split
      case isTrue => exact h.after_expire hs hr hn.err hn.maxr
      case isFalse hlt =>
        obtain ⟨hsending, hle⟩ := h.inv4 (hn.tmrSt ▸ hcount.1)
        refine { h with inv4 := fun _ => ⟨hsending, ?_⟩ }
        have hone : 1 < 2 ^ wTmr := by have := s.tmrCnt.isLt; omega
        have hdec : (s.tmrCnt - 1).toNat = s.tmrCnt.toNat - 1 := by
          rw [BitVec.toNat_sub_of_le] <;> simp [BitVec.le_def, Nat.mod_eq_of_lt hone]; omega
        rw [hn.tmrCnt] at hle
        simp only [hdec]
        omega

/-! The controller's part of a cycle, one rule per session (R220). -/

theorem Regs.Inv.after_openAccept (h : n.Inv) (hs : n.sess = .closed) (hf : n.frmV = false) :
    (openAccept inp n).Inv where
  inv1 := codes_in_range _
  inv2 := h.inv2
  inv3 := by simp
  inv4 := by simp
  inv5 := by simp
  inv6 _ _ := rfl
  inv7 hv := by simp [hf] at hv
  inv8 := by simp
  inv9 _ := h.inv9 (.inl hs)
  inv10 := h.inv10
  inv11 := by simp
  inv12 := .inr expects_openAccept
  inv13 := by simp
  inv14 := by simp
  fresh _ := ⟨rfl, rfl⟩
  sender hb := by simp [h.inv9 (.inl hs)] at hb

theorem Regs.Inv.after_channelOpen (h : n.Inv) (hn : SameLink s n) (hs : n.sess = .openChan) :
    (channelOpen inp s n).Inv := by
  have hidle : n.tmrSt = .idle := h.tmrSt_idle (by simp [hs])
  have hsending : n.txb = false := h.inv9 (.inr hs)
  have herr : n.err = .none := h.inv6 (by simp [hs]) (by simp [hs])
  obtain ⟨hcount, hdone⟩ := h.fresh hs
  unfold channelOpen
  split
  case isTrue =>
    have hclosed := h.settle_sess (t := .closed) (by simp [hs]) hidle (.inr (.inr ⟨rfl, hsending⟩))
    simpa [herr] using hclosed.after_recordError (.inr rfl) .channelOpenFailed
  case isFalse =>
    split
    case isFalse => exact h
    case isTrue =>
      dsimp only
      split
      next hr => exact h.after_resendSet (.inl hs) (hn.role.trans hr) (by simp [hcount])
      next hr =>
        have hrx : n.role = .receiver := hn.role.trans hr
        exact { h with
          inv1 := codes_in_range _
          inv3 := fun hne => (hne hidle).elim
          inv5 := fun _ htx => by simp [hrx] at htx
          inv6 := fun _ _ => herr
          inv8 := nofun
          inv9 := fun _ => hsending
          inv12 := .inr (h.expects (by simp [hs]))
          inv13 := fun _ htx => by simp [hrx] at htx
          inv14 := fun _ _ => ⟨hidle, hsending, hdone⟩
          fresh := nofun }

theorem Regs.Inv.after_acceptUA (h : n.Inv) (hs : n.sess = .openWait) : (acceptUA (setDone n)).Inv :=
  h.settle (by simp [hs]) (.inl ⟨rfl, h.inv6 (by simp [hs]) (by simp [hs])⟩) 0 true

theorem Regs.Inv.after_acceptSET (h : n.Inv) (hs : n.sess = .openWait) (hr : n.role = .receiver) :
    (acceptSET (setDone n)).Inv := by
  have hidle : n.tmrSt = .idle := (h.inv14 hs hr).1
  exact { h with
    inv1 := codes_in_range _
    inv2 := nofun
    inv3 := fun hne => (hne hidle).elim
    inv4 := fun hrun => by simp [hidle] at hrun
    inv5 := nofun
    inv6 := fun _ _ => h.inv6 (by simp [hs]) (by simp [hs])
    inv8 := fun _ => hr
    inv9 := nofun
    inv10 := fun _ => .inr rfl
    inv12 := .inr (h.expects (by simp [hs]))
    inv13 := nofun
    inv14 := nofun
    fresh := nofun
    sender := fun _ => by simp [hr] }

theorem Regs.Inv.after_awaitReply (h : n.Inv) (hn : SameLink s n) (hs : n.sess = .openWait) {txdone : Bool}
    (hd : txdone = true → n.txb = false) : (awaitReply inp txdone s n).Inv := by
  unfold awaitReply
  split
  case isTrue => exact h.after_errorEntry (by simp [hs]) hn.err _
  case isFalse =>
    have hp : (parseCycle inp s n).Inv := h.after_parseCycle
    have hnp : SameLink s (parseCycle inp s n) := hn.parseCycle
    have hsp : (parseCycle inp s n).sess = .openWait := by simpa [parseCycle_eq] using hs
    have hdp : txdone = true → (parseCycle inp s n).txb = false := by simpa [parseCycle_eq] using hd
    dsimp only
    split
    case isTrue =>
      split
      next => exact hp.after_acceptUA hsp
      next hr => exact hp.after_acceptSET hsp (hnp.role.trans hr)
    case isFalse =>
      split
      next hr => exact hp.after_timerCycle hnp hsp (hnp.role.trans hr) hdp
      next => exact hp

theorem Regs.Inv.after_sendingUA (h : n.Inv) (he : n.err = s.err) (hs : n.sess = .openAck) (txdone : Bool) :
    (sendingUA inp txdone s n).Inv := by
  unfold sendingUA
  split
  · exact h.after_errorEntry (by simp [hs]) he _
  · split
    · exact h.settle_sess (by simp [hs]) (h.tmrSt_idle (by simp [hs]))
        (.inl ⟨rfl, h.inv6 (by simp [hs]) (by simp [hs])⟩)
    · exact h

theorem Regs.Inv.after_linkOpen (h : n.Inv) (he : n.err = s.err) (hs : n.sess = .opened) : (linkOpen inp s n).Inv := by
  unfold linkOpen
  split
  · exact h.after_errorEntry (by simp [hs]) he _
  · split
    · exact h.settle_sess (by simp [hs]) (h.tmrSt_idle (by simp [hs])) (.inr (.inl rfl))
    · exact h

theorem Regs.Inv.after_release (h : n.Inv) (he : n.err = s.err) (hs : n.sess = .closing)
    (hb : s.txb = false → n.txb = false) : (release inp s n).Inv := by
  have hidle : n.tmrSt = .idle := h.tmrSt_idle (by simp [hs])
  unfold release
  split
  case isTrue =>
    have hclosed := h.after_dropFrame.settle_sess (t := .closed) (by simp [hs]) hidle (.inr (.inr ⟨rfl, rfl⟩))
    rw [recordError_eq, ← he]
    exact hclosed.after_recordError (.inr rfl) .channelIOFailed
  case isFalse =>
    split
    case isTrue hack =>
      exact h.settle_sess (by simp [hs]) hidle (.inr (.inr ⟨rfl, hb hack.1⟩))
    case isFalse => exact h

/-- A cycle keeps the invariants, whatever its inputs. -/
theorem Regs.Inv.after_cycle (h : s.Inv) (inp : Input wTmr wRetry) : (cycle inp s).Inv := by
  cases hrst : inp.rst with
  | true => exact cycle_rst s hrst ▸ inv_reset
  | false =>
    rw [cycle_eq s hrst]
    have hn : SameLink s (transmit inp s (clearFrameValid s)) := sameLink_transmit
    have hi : (transmit inp s (clearFrameValid s)).Inv := h.after_clearFrameValid.after_transmit rfl
    have hf : (transmit inp s (clearFrameValid s)).frmV = false := by rw [transmit_eq]; rfl
    have hdone : txDone s inp = true → (transmit inp s (clearFrameValid s)).txb = false := fun hd => by
      simp [transmit_eq, hd]
    have hquiet : s.txb = false → (transmit inp s (clearFrameValid s)).txb = false := fun hb => by
      simpa [transmit_idle inp _ hb] using hb
    unfold controller
    split
    next hs =>
      split
      · exact hi.after_openAccept (hn.sess.trans hs) hf
      · exact hi
    next hs => exact hi.after_channelOpen hn (hn.sess.trans hs)
    next hs => exact hi.after_awaitReply hn (hn.sess.trans hs) hdone
    next hs => exact hi.after_sendingUA hn.err (hn.sess.trans hs) _
    next hs => exact hi.after_linkOpen hn.err (hn.sess.trans hs)
    next hs => exact hi.after_release hn.err (hn.sess.trans hs) hquiet

/-- And so does every run of cycles. -/
theorem Regs.Inv.after_runCycles (h : s.Inv) (ins : List (Input wTmr wRetry)) : (runCycles ins s).Inv := by
  induction ins generalizing s with
  | nil => exact h
  | cons inp ins ih => exact ih (h.after_cycle inp)

end Sys2Proof.Machine
end

section
/-! Every step of the machine is a run of cycles: the decoder yields no micro-operation, and the other rows are one
cycle (a command, an event, STEP) or five (a frame). -/

namespace Sys2Proof.Machine

open Sys2Proof.Laws

/-- The row of a command code stands for the cycle that presents it alone (R100). -/
theorem input?_ofCommandCode (op : BitVec 3) : (Instr.ofCommandCode op).input? = some (.onlyCmd op) := by
  revert op
  decide

/-- The row of a cycle's inputs stands for exactly these inputs (R104). -/
theorem input?_ofInput (inp : Input) : (Instr.ofInput inp).input? = some inp := by
  unfold Instr.ofInput
  split_ifs with hrst hrx htick htx hoack hofail hcack herr hopen hcmd
  · exact congrArg some hrst.symm
  · exact congrArg some hrx.symm
  · exact congrArg some htick.symm
  · exact congrArg some htx.symm
  · exact congrArg some hoack.symm
  · exact congrArg some hofail.symm
  · exact congrArg some hcack.symm
  · exact congrArg some herr.symm
  · exact congrArg some hopen.symm
  · exact (input?_ofCommandCode inp.cmdOp).trans (congrArg some hcmd.symm)
  · rfl

/-- The row of a control frame stands for that frame (R93, R94). -/
theorem frame?_ofFrame (a c : Byte) : (Instr.ofFrame a c).frame? = some (buildFrame a c) := by
  unfold Instr.ofFrame classify
  split_ifs with hset hua
  · obtain ⟨rfl, rfl⟩ := hset; rfl
  · obtain ⟨rfl, rfl⟩ := hua; rfl
  · rfl

/-- What the decoder yields stands for a cycle or for a frame; a micro-operation stands for neither. -/
theorem input?_or_frame?_of_decode {item : Item} {i : Instr} (h : decode item = .ok i) :
    (∃ inp, i.input? = some inp) ∨ ∃ f, i.frame? = some f := by
  cases item with
  | cycle v =>
    rw [decode, decodeCycle] at h
    split at h
    · cases h; exact .inl ⟨_, input?_ofInput _⟩
    · cases h
  | frame v =>
    simp only [decode, decodeFrameWord] at h
    split_ifs at h
    cases h; exact .inr ⟨_, frame?_ofFrame _ _⟩

/-- A command, an event and STEP run the cycle they stand for, the reserved commands among them (R233, R235). -/
theorem exec_of_input? {i : Instr} {inp : Input} (h : i.input? = some inp) (s : State) :
    exec i s = runCycle inp s := by
  cases i <;> cases h <;> rfl

/-- A frame row runs the five cycles in which its frame arrives (R107). -/
theorem exec_of_frame? {i : Instr} {f : Frame} (h : i.frame? = some f) (s : State) :
    exec i s = complete (receiveFrame f) s := by
  cases i <;> cases h <;> rfl

/-- Every step is a run of cycles of the registers. -/
theorem step_runs_cycles {s t : State} (h : step s = .next t) :
    ∃ ins : List Input, t.regs = runCycles ins s.regs := by
  obtain ⟨i, hdecode, hexec⟩ := step_eq_next h
  rcases input?_or_frame?_of_decode hdecode with ⟨inp, hi⟩ | ⟨f, hf⟩
  · rw [exec_of_input? hi, runCycle_eq_next_iff] at hexec
    obtain ⟨-, rfl⟩ := hexec
    exact ⟨[inp], by rw [← fetch_regs s]; rfl⟩
  · rw [exec_of_frame? hf, complete_eq_next_iff] at hexec
    subst hexec
    exact ⟨rxCycles (frameBytes f), by rw [← fetch_regs s]; rfl⟩

end Sys2Proof.Machine
end

section
/-! What a cycle does to the registers that a session records: the configuration, the awaited pair, the sticky flags,
`RSTATE` and `FRM_V`. The controller writes them at an accepted OPEN and in `OPEN_WAIT` only. -/

namespace Sys2Proof.Machine

open Sys2Proof.Laws

variable {wTmr wRetry : Nat} {s n m k : Regs wTmr wRetry} {inp : Input wTmr wRetry}

/-- `m` holds what `n` holds in the registers that a session records. -/
structure SameRecord (n m : Regs wTmr wRetry) : Prop where
  role : m.role = n.role
  timeout : m.timeout = n.timeout
  maxr : m.maxr = n.maxr
  expA : m.expA = n.expA
  expC : m.expC = n.expC
  rstate : m.rstate = n.rstate
  frmV : m.frmV = n.frmV
  stDone : m.stDone = n.stDone
  stAbort : m.stAbort = n.stAbort

theorem SameRecord.refl (n : Regs wTmr wRetry) : SameRecord n n := by constructor <;> rfl

theorem SameRecord.trans (h : SameRecord n m) (h' : SameRecord m k) : SameRecord n k where
  role := h'.role.trans h.role
  timeout := h'.timeout.trans h.timeout
  maxr := h'.maxr.trans h.maxr
  expA := h'.expA.trans h.expA
  expC := h'.expC.trans h.expC
  rstate := h'.rstate.trans h.rstate
  frmV := h'.frmV.trans h.frmV
  stDone := h'.stDone.trans h.stDone
  stAbort := h'.stAbort.trans h.stAbort

/-- The error entry leaves the record alone (R254). -/
theorem sameRecord_errorEntry (code : Err) (s n : Regs wTmr wRetry) : SameRecord n (errorEntry code s n) := by
  rw [errorEntry_eq]
  constructor <;> rfl

theorem sameRecord_channelOpen : SameRecord n (channelOpen inp s n) := by
  unfold channelOpen
  split
  · constructor <;> rfl
  · split
    · dsimp only
      split <;> constructor <;> rfl
    · exact .refl n

theorem sameRecord_sendingUA (txdone : Bool) : SameRecord n (sendingUA inp txdone s n) := by
  unfold sendingUA
  split
  · exact sameRecord_errorEntry _ _ _
  · split <;> constructor <;> rfl

theorem sameRecord_linkOpen : SameRecord n (linkOpen inp s n) := by
  unfold linkOpen
  split
  · exact sameRecord_errorEntry _ _ _
  · split <;> constructor <;> rfl

theorem sameRecord_release : SameRecord n (release inp s n) := by
  unfold release
  split
  · rw [recordError_eq]
    constructor <;> rfl
  · split <;> constructor <;> rfl

/-- The expiry of this cycle is the one that reaches the maximum (R176, R178, R181). -/
def lastExpiry (inp : Input wTmr wRetry) (s : Regs wTmr wRetry) : Bool :=
  decide (s.tmrSt = .run ∧ inp.tick = true ∧ s.tmrCnt.toNat ≤ 1 ∧ s.maxr.toNat ≤ s.retryCnt.toNat + 1)

/-- The timer's part of the record is `ST_ABORT`, which the last expiry sets (R180). -/
theorem sameRecord_timerCycle (txdone : Bool) :
    SameRecord { n with stAbort := n.stAbort || lastExpiry inp s } (timerCycle inp txdone s n) := by
  unfold timerCycle
  split
  case isTrue hstart =>
    have hlast : lastExpiry inp s = false := by simp [lastExpiry, hstart.1]
    rw [startCounting, if_pos hstart, hlast, Bool.or_false]
    constructor <;> rfl
  case isFalse =>
    unfold countTick
    split
    case isFalse hcount =>
      have hlast : lastExpiry inp s = false := by simp [lastExpiry, ← and_assoc, hcount]
      rw [hlast, Bool.or_false]
      exact .refl n
    case isTrue hcount =>
      split
      case isFalse hmore =>
        have hlast : lastExpiry inp s = false := by simp [lastExpiry, hmore]
        rw [hlast, Bool.or_false]
        constructor <;> rfl
      case isTrue hexpire =>
        rw [expire_eq]
        split
        case isTrue hmax =>
          have hlast : lastExpiry inp s = true := by simp [lastExpiry, hcount, hexpire, hmax]
          rw [hlast, Bool.or_true]
          exact SameRecord.trans (by constructor <;> rfl) (sameRecord_errorEntry _ _ _)
        case isFalse hmax =>
          have hlast : lastExpiry inp s = false := by simp [lastExpiry, hmax]
          rw [hlast, Bool.or_false]
          constructor <;> rfl

/-- The retry counter reaches its maximum in this cycle: a waiting transmitter's last expiry, with no event of higher
priority (R188). -/
def aborts (inp : Input wTmr wRetry) (s : Regs wTmr wRetry) : Bool :=
  decide (s.sess = .openWait ∧ s.role = .transmitter) && !inp.chanErr && !doneEvent s inp && lastExpiry inp s

/-- The record after a cycle that accepts no OPEN: the parser's registers, and the two sticky flags (R44). -/
def recorded (inp : Input wTmr wRetry) (s n : Regs wTmr wRetry) : Regs wTmr wRetry :=
  { parseCycle inp s n with
    stDone := n.stDone || doneEvent s inp
    stAbort := n.stAbort || aborts inp s }

/-- A cycle that consumes no byte and does not abort leaves the record alone. -/
theorem sameRecord_recorded_of_quiet (hf : n.frmV = false) (hb : consumedByte s inp = none)
    (ha : aborts inp s = false) : SameRecord (recorded inp s n) n := by
  have hp : parseCycle inp s n = { n with frmV := false } := by simp [parseCycle, clearFrameValid, hb]
  rw [recorded, hp, ha, doneEvent_of_no_byte hb, Bool.or_false, Bool.or_false, ← hf]
  exact .refl n

theorem sameRecord_awaitReply (hs : s.sess = .openWait) (hf : n.frmV = false) (txdone : Bool) :
    SameRecord (recorded inp s n) (awaitReply inp txdone s n) := by
  unfold awaitReply
  split
  case isTrue herr =>
    have hquiet : SameRecord (recorded inp s n) n :=
      sameRecord_recorded_of_quiet hf (by simp [consumedByte, herr]) (by simp [aborts, herr])
    exact hquiet.trans (sameRecord_errorEntry _ _ _)
  case isFalse herr =>
    dsimp only
    split
    case isTrue hdone =>
      have ha : aborts inp s = false := by simp [aborts, hdone]
      have hrec : SameRecord (recorded inp s n) (setDone (parseCycle inp s n)) := by
        rw [recorded, ha, hdone, parseCycle_eq]
        constructor <;> simp
      split
      · exact hrec.trans (by constructor <;> rfl)
      · exact hrec.trans (by constructor <;> rfl)
    case isFalse hdone =>
      split
      next hr =>
        have ha : aborts inp s = lastExpiry inp s := by simp [aborts, hs, hr, herr, hdone]
        have hrec : SameRecord (recorded inp s n)
            { parseCycle inp s n with stAbort := (parseCycle inp s n).stAbort || lastExpiry inp s } := by
          rw [recorded, ha, parseCycle_eq]
          constructor <;> simp [hdone]
        exact hrec.trans (sameRecord_timerCycle txdone)
      next hr =>
        have ha : aborts inp s = false := by simp [aborts, hr]
        rw [recorded, ha, parseCycle_eq]
        constructor <;> simp [hdone]

/-- The controller writes the record in `OPEN_WAIT` and at an accepted OPEN only. -/
theorem sameRecord_controller (hopen : ¬ (s.sess = .closed ∧ command inp = .opn)) (hf : n.frmV = false)
    (txdone : Bool) : SameRecord (recorded inp s n) (controller inp txdone s n) := by
  by_cases hs : s.sess = .openWait
  · simpa [controller, hs] using sameRecord_awaitReply hs hf txdone
  · have hquiet : SameRecord (recorded inp s n) n :=
      sameRecord_recorded_of_quiet hf (by simp [consumedByte, parserActive, hs]) (by simp [aborts, hs])
    refine hquiet.trans ?_
    unfold controller
    split
    next hc => rw [if_neg fun ho => hopen ⟨hc, ho⟩]; exact .refl n
    next => exact sameRecord_channelOpen
    next hw => exact (hs hw).elim
    next => exact sameRecord_sendingUA txdone
    next => exact sameRecord_linkOpen
    next => exact sameRecord_release

/-- The record after any cycle without reset and without an accepted OPEN. -/
theorem sameRecord_cycle (hrst : inp.rst = false) (hopen : ¬ (s.sess = .closed ∧ command inp = .opn)) :
    SameRecord (recorded inp s s) (cycle inp s) := by
  have hn : SameRecord (recorded inp s s) (recorded inp s (transmit inp s (clearFrameValid s))) := by
    rw [recorded, recorded, parseCycle_eq, parseCycle_eq, transmit_eq]
    constructor <;> rfl
  rw [cycle_eq s hrst]
  exact hn.trans (sameRecord_controller hopen (by rw [transmit_eq]; rfl) _)

/-- OPEN is accepted in `CLOSED` (R221). -/
theorem cycle_openAccept (hrst : inp.rst = false) (hs : s.sess = .closed) (hc : command inp = .opn) :
    cycle inp s = openAccept inp (transmit inp s (clearFrameValid s)) := by
  rw [cycle_eq s hrst]
  simp [controller, hs, hc]

/-- The OPEN command is the code 001 with `cmd_valid` (R100). -/
theorem command_eq_opn_iff : command inp = .opn ↔ inp.cmdValid = true ∧ inp.cmdOp = 1 := by
  have hcode : ∀ op : BitVec 3, commandOfCode op = .opn ↔ op = 1 := by decide
  cases hv : inp.cmdValid <;> simp [command, hv, hcode]

/-- The configuration inputs are read by an accepted OPEN only (R33). -/
theorem cycle_cfg_eq (hopen : ¬ (s.sess = .closed ∧ command inp = .opn)) (role : Role) (timeout : Ticks wTmr)
    (maxRetry : Retries wRetry) :
    cycle { inp with cfgRole := role, cfgTimeout := timeout, cfgMaxRetry := maxRetry } s = cycle inp s := by
  unfold cycle
  split
  · rfl
  · unfold controller
    split
    next hs =>
      have hc : ¬ command inp = .opn := fun hc => hopen ⟨hs, hc⟩
      exact (if_neg hc).trans (if_neg hc).symm
    all_goals rfl

/-- A cycle without reset keeps the pair of the role, an OPEN accepted in it included. -/
theorem Regs.Expects.after_cycle (h : s.Expects) (hrst : inp.rst = false) : (cycle inp s).Expects := by
  by_cases hopen : s.sess = .closed ∧ command inp = .opn
  · rw [cycle_openAccept hrst hopen.1 hopen.2]
    exact expects_openAccept
  · have hrec := sameRecord_cycle hrst hopen
    rw [recorded, parseCycle_eq] at hrec
    obtain ⟨hA, hC⟩ := h
    exact ⟨hrec.expA.trans hA, by rw [hrec.expC, hrec.role]; exact hC⟩

theorem Regs.Expects.after_runCycles (h : s.Expects) {ins : List (Input wTmr wRetry)}
    (hrst : ∀ i ∈ ins, i.rst = false) : (runCycles ins s).Expects := by
  induction ins generalizing s with
  | nil => exact h
  | cons i ins ih =>
    rw [List.forall_mem_cons] at hrst
    exact ih (h.after_cycle hrst.1) hrst.2

end Sys2Proof.Machine
end

section
/-! The obligations of spec/10_state.md. -/

namespace Sys2Proof.Machine

open Sys2Proof.Laws Sys2Proof.Claims

/-- A Done event in the words of the claims (R21, R146). -/
theorem doneEvent_iff_confirms {inp : Input} {r : Regs} :
    doneEvent r inp = true ↔ r.sess = .openWait ∧ inp.chanErr = false ∧ confirms inp r := doneEvent_eq_confirms

/-- An accepted OPEN in the words of the claims. -/
theorem presents_opn_iff {inp : Input} : presents inp 1 ↔ command inp = .opn := command_eq_opn_iff.symm

/-- Settles O60: each operation of a cycle keeps the invariants, or restores those of the session it moves to. -/
theorem cycleKeepsTheInvariantsAtEveryWidth : Obligations.CycleKeepsTheInvariantsAtEveryWidth :=
  fun _ _ inp _ h => h.after_cycle inp

/-- Settles O44: a step is a run of cycles. -/
theorem stepKeepsTheInvariants : Obligations.StepKeepsTheInvariants := by
  intro s t h hstep
  obtain ⟨ins, hins⟩ := step_runs_cycles hstep
  exact hins ▸ h.after_runCycles ins

/-- Settles O43: `inv_reset` at the default widths. -/
theorem resetMeetsTheInvariants : Obligations.ResetMeetsTheInvariants := inv_reset

/-- Settles O45: the invariants hold at reset and every cycle keeps them; an accepted OPEN writes the pair of the role,
which every later cycle without reset keeps. -/
theorem reachableStatesMeetTheInvariants : Obligations.ReachableStatesMeetTheInvariants := by
  refine ⟨inv_reset.after_runCycles, ?_⟩
  intro before after inp r hrst hs hopn hafter
  have hr : r = runCycles after (cycle inp (runCycles before Regs.reset)) := by
    rw [← runCycles_cons, ← runCycles_append]
  have hopened : (cycle inp (runCycles before Regs.reset)).Expects := by
    rw [cycle_openAccept hrst hs (presents_opn_iff.1 hopn)]
    exact expects_openAccept
  exact hr ▸ hopened.after_runCycles hafter

/-- Settles O19: `FRM_V` is the cycle's Done event, which enters `Done`; reset and an accepted OPEN have none. -/
theorem frameValidFollowsDoneEvent : Obligations.FrameValidFollowsDoneEvent := by
  intro inp r
  cases hrst : inp.rst with
  | true => simp [cycle_rst r hrst, Regs.reset, outputs]
  | false =>
    by_cases hopen : r.sess = .closed ∧ command inp = .opn
    · have hf : (cycle inp r).frmV = false := by
        rw [cycle_openAccept hrst hopen.1 hopen.2, transmit_eq]; rfl
      simp [hf, hopen.1, outputs]
    · have hrec := sameRecord_cycle hrst hopen
      have hf : (cycle inp r).frmV = doneEvent r inp := by rw [hrec.frmV, recorded, parseCycle_eq]
      refine ⟨?_, rfl, fun hv => ?_⟩
      · rw [hf, doneEvent_iff_confirms]; simp
      · exact hrec.rstate.trans (parseCycle_rstate_of_frmV (hrec.frmV.symm.trans hv))

/-- Settles O49: an accepted OPEN is `openAccept`; every other cycle keeps the record and reads no
configuration input. -/
theorem configurationIsWrittenByOpenOnly : Obligations.ConfigurationIsWrittenByOpenOnly := by
  intro inp r hrst
  rw [presents_opn_iff]
  refine ⟨fun ⟨hs, hc⟩ => ?_, fun hopen => ?_⟩
  · rw [cycle_openAccept hrst hs hc]
    exact ⟨rfl, rfl, rfl⟩
  · have hrec := sameRecord_cycle hrst hopen
    rw [recorded, parseCycle_eq] at hrec
    exact ⟨hrec.role, hrec.timeout, hrec.maxr, cycle_cfg_eq hopen⟩

/-- Settles O50: the flags of `recorded` in the words of R44; reset and an accepted OPEN write both 0. -/
theorem stickyFlags : Obligations.StickyFlags := by
  intro inp r
  rw [presents_opn_iff]
  refine ⟨?_, fun hrst hopen => ⟨?_, ?_⟩⟩
  · rintro (hrst | ⟨hs, hc⟩)
    · rw [cycle_rst r hrst]
      exact ⟨rfl, rfl⟩
    · cases hrst : inp.rst with
      | true => rw [cycle_rst r hrst]; exact ⟨rfl, rfl⟩
      | false => rw [cycle_openAccept hrst hs hc]; exact ⟨rfl, rfl⟩
  · rw [(sameRecord_cycle hrst hopen).stDone, recorded, Bool.or_eq_true, doneEvent_iff_confirms]
  · rw [(sameRecord_cycle hrst hopen).stAbort, recorded, Bool.or_eq_true]
    refine or_congr_right ?_
    rw [aborts]
    simp only [Bool.and_eq_true, Bool.not_eq_true', decide_eq_true_eq, ← Bool.not_eq_true, doneEvent_iff_confirms,
      lastExpiry]
    tauto

/-- The bytes of a frame in wire order (R91). -/
theorem frameByte_eq_ite (f : Frame) (i : Fin 5) :
    frameByte f i = if i = 0 then f.opening else if i = 1 then f.addr else if i = 2 then f.ctrl
      else if i = 3 then f.bcc else f.closing := by
  fin_cases i <;> rfl

/-- Settles O42: the table of R49, port by port, each code by the values of its register. -/
theorem outputPorts : Obligations.OutputPorts := by
  intro r
  refine ⟨rfl, ?_, ?_, ?_, ?_, ?_, ?_, rfl, rfl, rfl, ?_, rfl, rfl⟩
  · simp only [outputs, offeredByte, frameByte_eq_ite]
  · simp [outputs]
  · simp [outputs]
  · cases hs : r.sess <;> simp [outputs, sessCode, hs]
  · cases hs : r.sess <;> simp [outputs, linkState, linkCode, hs]
  · cases he : r.err <;> simp [outputs, errCode, namedCode, he]
  · cases hs : r.rstate <;> simp [outputs, rstateCode, hs]

end Sys2Proof.Machine
end

section
/-! The obligation of spec/20_memory.md: where a step's encoded object comes from (R83), and what a step does with
each of the decoder's two answers. -/

namespace Sys2Proof.Machine

variable {wTmr wRetry : Nat}

theorem fetch_of_stim_cons {s : State wTmr wRetry} {item : Item wTmr wRetry} {rest : List (Item wTmr wRetry)}
    (h : s.stim = item :: rest) : fetch s = (item, { s with stim := rest }) := by
  simp only [fetch, h]

theorem fetch_of_stim_nil {s : State wTmr wRetry} (h : s.stim = []) :
    fetch s = (.cycle (Config.freeInput s.draws), { s with draws := s.draws + 1 }) := by
  simp only [fetch, h]

theorem step_of_decode_ok {s s' : State} {item : Item} {i : Instr} (hfetch : fetch s = (item, s'))
    (hdecode : decode item = .ok i) : step s = exec i s' := by
  simp only [step, hfetch, hdecode]

theorem step_of_decode_error {s s' : State} {item : Item} {e : DecodeError} (hfetch : fetch s = (item, s'))
    (hdecode : decode item = .error e) : step s = .refused (.undecodable e) := by
  simp only [step, hfetch, hdecode]

/-- Settles O1: the queue decides what is fetched, and the decoder's answer what the step does with it. -/
theorem stepRunsTheDecodedItem : Obligations.StepRunsTheDecodedItem := by
  intro s
  refine ⟨fun item rest i hstim hdecode => ?_, fun item rest e hstim hdecode => ?_, fun hstim => ?_⟩
  · exact step_of_decode_ok (fetch_of_stim_cons hstim) hdecode
  · exact step_of_decode_error (fetch_of_stim_cons hstim) hdecode
  · have hfetch := fetch_of_stim_nil hstim
    cases hdecode : decode (.cycle (Config.freeInput s.draws)) with
    | ok i => exact step_of_decode_ok hfetch hdecode
    | error e => exact step_of_decode_error hfetch hdecode

end Sys2Proof.Machine
end

section
/-! The layout of the encoded objects: the ports of an input vector at every width (R103, R10) and the bytes of a frame
word (R91, R125). An object is the concatenation of its slices, so encoding its ports or bytes rebuilds it. -/

namespace Sys2Proof.Machine

open Sys2Proof.Laws

variable {wTmr wRetry : Nat}

@[simp] theorem ofBit_bit (r : Role) : Role.ofBit r.bit = r := by cases r <;> rfl

@[simp] theorem bit_ofBit (b : Bool) : (Role.ofBit b).bit = b := by cases b <;> rfl

/-- `cfg_role` is 1 for a receiver (R34). -/
theorem bit_eq_decide (r : Role) : r.bit = decide (r = .receiver) := by cases r <;> rfl

/-- A bit is the slice of one bit at its place. -/
theorem ofBool_getLsbD_eq_extractLsb' {w : Nat} (v : BitVec w) (k : Nat) :
    BitVec.ofBool (v.getLsbD k) = v.extractLsb' k 1 := by
  apply BitVec.eq_of_getLsbD_eq
  intro j hj
  simp [Nat.lt_one_iff.1 hj]

theorem extractLsb'_toWord_cmdOp (i : Input wTmr wRetry) : i.toWord.extractLsb' 2 3 = i.cmdOp := by
  rw [Input.toWord, BitVec.extractLsb'_append_eq_of_add_le (by decide)]
  iterate 2 rw [BitVec.extractLsb'_append_eq_of_le (by decide)]
  exact BitVec.extractLsb'_append_eq_right

theorem extractLsb'_toWord_rxData (i : Input wTmr wRetry) : i.toWord.extractLsb' 7 8 = i.rxData := by
  rw [Input.toWord, BitVec.extractLsb'_append_eq_of_add_le (by decide)]
  iterate 5 rw [BitVec.extractLsb'_append_eq_of_le (by decide)]
  exact BitVec.extractLsb'_append_eq_right

theorem extractLsb'_toWord_cfgTimeout (i : Input wTmr wRetry) : i.toWord.extractLsb' 24 wTmr = i.cfgTimeout := by
  rw [Input.toWord, BitVec.extractLsb'_append_eq_of_le (by decide)]
  exact BitVec.extractLsb'_append_eq_right

theorem extractLsb'_toWord_cfgMaxRetry (i : Input wTmr wRetry) :
    i.toWord.extractLsb' (24 + wTmr) wRetry = i.cfgMaxRetry := by
  rw [Input.toWord, BitVec.extractLsb'_append_eq_of_le (Nat.le_add_right _ _), Nat.add_sub_cancel_left]
  exact BitVec.extractLsb'_append_eq_left

/-- Each port is read back from its place in the vector. -/
theorem ofWord_toWord (i : Input wTmr wRetry) : Input.ofWord i.toWord = i := by
  simp only [Input.ofWord, extractLsb'_toWord_cmdOp, extractLsb'_toWord_rxData, extractLsb'_toWord_cfgTimeout,
    extractLsb'_toWord_cfgMaxRetry]
  simp only [Input.toWord, BitVec.getLsbD_append]
  simp

/-- With the reserved bits 0, the fifteen slices of R103 put together are the vector. -/
theorem toWord_ofWord {v : InWord wTmr wRetry} (h : reservedBits v = 0) : (Input.ofWord v).toWord = v := by
  unfold Input.toWord Input.ofWord
  dsimp only
  rw [← h, reservedBits, bit_ofBit]
  simp only [ofBool_getLsbD_eq_extractLsb']
  iterate 14 rw [BitVec.extractLsb'_append_extractLsb'_eq_extractLsb' (by rfl)]
  exact BitVec.extractLsb'_eq_self

/-- Packing the five bytes of a frame word gives it back (R125). -/
theorem pack40_unpack40 (v : FrameWord) : pack40 (unpack40 v) = v := by
  unfold pack40 unpack40
  iterate 4 rw [BitVec.extractLsb'_append_extractLsb'_eq_extractLsb' (by rfl)]
  exact BitVec.extractLsb'_eq_self

end Sys2Proof.Machine
end

section
/-! The decoder and the encoder on the two kinds of object. The rows are compared through what they stand for: a cycle's
inputs (`Instr.input?`) or a control frame (`Instr.frame?`). -/

namespace Sys2Proof.Machine

open Sys2Proof.Laws

/-! What the encoder gives. -/

theorem encode_of_frame? {i : Instr} {f : Frame} (h : i.frame? = some f) : encode i = some (.frame (pack40 f)) := by
  rw [encode, h]

theorem encode_of_input? {i : Instr} {inp : Input} (h : i.input? = some inp) :
    encode i = some (.cycle inp.toWord) := by
  have hf : i.frame? = none := by cases i <;> cases h <;> rfl
  simp only [encode, hf, h, Option.map_some]

/-- An instruction that has an encoding stands for a frame or for a cycle. -/
theorem frame?_or_input?_of_encode {i : Instr} {item : Item} (h : encode i = some item) :
    (∃ f, i.frame? = some f ∧ item = .frame (pack40 f)) ∨
      ∃ inp, i.input? = some inp ∧ item = .cycle inp.toWord := by
  cases hf : i.frame? with
  | some f => exact .inl ⟨f, rfl, Option.some.inj (h.symm.trans (encode_of_frame? hf))⟩
  | none =>
    simp only [encode, hf, Option.map_eq_some_iff] at h
    obtain ⟨inp, hi, hitem⟩ := h
    exact .inr ⟨inp, hi, hitem.symm⟩

/-! What the decoder answers. -/

theorem decodeCycle_toWord (inp : Input) : decodeCycle inp.toWord = .ok (Instr.ofInput inp) := by
  rw [decodeCycle, if_pos (reservedBits_toWord inp), ofWord_toWord]

theorem decodeCycle_eq_ok_iff {v : InWord} {i : Instr} :
    decodeCycle v = .ok i ↔ reservedBits v = 0 ∧ Instr.ofInput (Input.ofWord v) = i := by
  unfold decodeCycle
  split <;> simp_all

theorem decodeFrameWord_pack40 (a c : Byte) :
    decodeFrameWord (pack40 (buildFrame a c)) = .ok (Instr.ofFrame a c) := by
  simp [decodeFrameWord, unpack40_pack40, buildFrame]

/-- A frame that meets R92 is the one built from its address and control bytes. -/
theorem eq_buildFrame {f : Frame} (hopening : f.opening = flag) (hclosing : f.closing = flag)
    (hbcc : f.bcc = bcc f.addr f.ctrl) : f = buildFrame f.addr f.ctrl := by
  cases f
  simp_all [buildFrame]

/-- Only the control frames of R92 decode. -/
theorem buildFrame_of_decodeFrameWord {v : FrameWord} {i : Instr} (h : decodeFrameWord v = .ok i) :
    ∃ a c, unpack40 v = buildFrame a c ∧ Instr.ofFrame a c = i := by
  simp only [decodeFrameWord] at h
  split_ifs at h with hopening hclosing hbcc
  cases h
  exact ⟨_, _, eq_buildFrame (not_not.1 hopening) (not_not.1 hclosing) (not_not.1 hbcc), rfl⟩

/-! The rows of the cycles with an operand, and of the cycles that are no single event. -/

theorem ofInput_onlyRx (b : Byte) : Instr.ofInput (.onlyRx b) = .rxByte b := by
  simp [Instr.ofInput, Input.onlyRst, Input.onlyRx, Input.idle]

theorem ofInput_onlyOpen (role : Role) (timeout : Ticks) (maxRetry : Retries) :
    Instr.ofInput (.onlyOpen role timeout maxRetry) = .openCmd role timeout maxRetry := by
  simp [Instr.ofInput, Input.onlyRst, Input.onlyRx, Input.onlyTick, Input.onlyTxReady, Input.onlyOpenAck,
    Input.onlyOpenFail, Input.onlyCloseAck, Input.onlyChanErr, Input.onlyOpen, Input.idle]

/-- A cycle that is no single event is STEP's (R104). -/
theorem ofInput_of_not_isSingle {inp : Input} (h : inp.isSingle = false) : Instr.ofInput inp = .step inp := by
  simp only [Input.isSingle, Bool.or_eq_false_iff, beq_eq_false_iff_ne] at h
  simp only [Instr.ofInput, h, if_false]

/-! The rows that the decoder gives are well-formed. -/

theorem wellFormed_ofInput_onlyCmd (op : BitVec 3) : (Instr.ofInput (.onlyCmd op)).wellFormed = true := by
  revert op
  decide

theorem wellFormed_ofInput (inp : Input) : (Instr.ofInput inp).wellFormed = true := by
  cases h : inp.isSingle with
  | false => rw [ofInput_of_not_isSingle h, Instr.wellFormed, h]; rfl
  | true =>
    simp only [Input.isSingle, Bool.or_eq_true, beq_iff_eq, or_assoc] at h
    rcases h with hrst | hrx | htick | htx | hoack | hofail | hcack | herr | hopen | hcmd
    · rw [hrst]; rfl
    · rw [hrx, ofInput_onlyRx]; rfl
    · rw [htick]; rfl
    · rw [htx]; rfl
    · rw [hoack]; rfl
    · rw [hofail]; rfl
    · rw [hcack]; rfl
    · rw [herr]; rfl
    · rw [hopen, ofInput_onlyOpen]; rfl
    · rw [hcmd]; exact wellFormed_ofInput_onlyCmd inp.cmdOp

theorem wellFormed_ofFrame (a c : Byte) : (Instr.ofFrame a c).wellFormed = true := by
  unfold Instr.ofFrame
  split
  next => rfl
  next => rfl
  next h => simp [Instr.wellFormed, h]

/-! A well-formed row is the decoder's row for what it stands for. -/

theorem ofInput_of_input? {i : Instr} {inp : Input} (hw : i.wellFormed = true) (h : i.input? = some inp) :
    Instr.ofInput inp = i := by
  cases i <;> cases h
  case rxByte b => exact ofInput_onlyRx b
  case openCmd role timeout maxRetry => exact ofInput_onlyOpen role timeout maxRetry
  case step => exact ofInput_of_not_isSingle (by simpa [Instr.wellFormed] using hw)
  all_goals rfl

theorem ofFrame_of_frame? {i : Instr} {f : Frame} (hw : i.wellFormed = true) (h : i.frame? = some f) :
    ∃ a c, f = buildFrame a c ∧ Instr.ofFrame a c = i := by
  cases i <;> cases h
  case setFrame => exact ⟨aCmd, cSet, rfl, rfl⟩
  case uaFrame => exact ⟨aCmd, cUa, rfl, rfl⟩
  case ctrlFrame a c =>
    have htype : classify a c = .untyped := by simpa [Instr.wellFormed] using hw
    exact ⟨a, c, rfl, by rw [Instr.ofFrame, htype]⟩

end Sys2Proof.Machine
end

section
/-! The reception of bytes, one a cycle and no other event (R107): the parser's rows read backwards (R142 to R145), what
one such cycle does, and what the five cycles of a control frame do. -/

namespace Sys2Proof.Machine

open Sys2Proof.Laws Sys2Proof.Claims

variable {wTmr wRetry : Nat} {s : Regs wTmr wRetry}

/-! The parser. -/

/-- A FLAG that confirms nothing begins a frame (R148). -/
theorem parseNext_flag {st : RState} (h : st ≠ .checksumOk) (ea ec : Byte) :
    parseNext st flag ea ec = .flagReceived := by
  cases st <;> simp_all [parseNext]

theorem parseNext_addressReceived_iff (st : RState) (b ea ec : Byte) :
    parseNext st b ea ec = .addressReceived ↔ st = .flagReceived ∧ b ≠ flag ∧ b = ea := by
  cases st <;> simp only [parseNext] <;> split_ifs <;> simp_all

theorem parseNext_controlReceived_iff (st : RState) (b ea ec : Byte) :
    parseNext st b ea ec = .controlReceived ↔ st = .addressReceived ∧ b ≠ flag ∧ b = ec := by
  cases st <;> simp only [parseNext] <;> split_ifs <;> simp_all

theorem parseNext_checksumOk_iff (st : RState) (b ea ec : Byte) :
    parseNext st b ea ec = .checksumOk ↔ st = .controlReceived ∧ b ≠ flag ∧ b = bcc ea ec := by
  cases st <;> simp only [parseNext] <;> split_ifs <;> simp_all [bccCheck]

/-- The three bytes between the FLAGs reach `ChecksumOk` exactly when they are those of the awaited frame. -/
theorem parseEnd_eq_checksumOk_iff (a c k ea ec : Byte) :
    parseEnd [a, c, k] .flagReceived ea ec = .checksumOk ↔
      (a ≠ flag ∧ a = ea) ∧ (c ≠ flag ∧ c = ec) ∧ k ≠ flag ∧ k = bcc ea ec := by
  simp [parseEnd, parseStep_fst, parseNext_checksumOk_iff, parseNext_controlReceived_iff,
    parseNext_addressReceived_iff, and_assoc]

/-- The first four bytes of a frame never enter `Done`: that takes `ChecksumOk`, three bytes after a FLAG (R146). -/
theorem done_notMem_parseStates {st : RState} (h : st ≠ .checksumOk) (a c k ea ec : Byte) :
    .done ∉ parseStates [flag, a, c, k] st ea ec := by
  simp [parseStates, parseStep_fst, parseNext_flag h, eq_comm (a := RState.done), parseNext_done_iff,
    parseNext_checksumOk_iff, parseNext_controlReceived_iff]

/-! One cycle with a received byte and no other event. -/

/-- Such a cycle takes no byte from the transmitter, so only the controller acts. -/
theorem cycle_onlyRx (b : Byte) :
    cycle (.onlyRx b) s = controller (.onlyRx b) false s (clearFrameValid s) := by
  have htaken : txAccepted s (.onlyRx b) = false := Bool.and_false _
  rw [cycle_eq s rfl, transmit, htaken, txDone, htaken]
  rfl

theorem timerCycle_onlyRx (b : Byte) (n : Regs wTmr wRetry) : timerCycle (.onlyRx b) false s n = n := by
  simp [timerCycle, countTick, Input.onlyRx, Input.idle]

theorem consumedByte_onlyRx (hs : s.sess = .openWait) (b : Byte) : consumedByte s (.onlyRx b) = some b :=
  consumedByte_eq_some.2 ⟨hs, rfl, rfl, rfl⟩

/-- A byte that does not enter `Done` moves the parser and nothing else (R160). -/
theorem cycle_onlyRx_of_ne_done (hs : s.sess = .openWait) {b : Byte}
    (hb : parseNext s.rstate b s.expA s.expC ≠ .done) :
    cycle (.onlyRx b) s = { s with rstate := parseNext s.rstate b s.expA s.expC, frmV := false } := by
  have hdone : doneEvent s (.onlyRx b) = false := by simp [doneEvent, consumedByte_onlyRx hs, parseStep_fst, hb]
  have hparse : parseCycle (.onlyRx b) s (clearFrameValid s) =
      { s with rstate := parseNext s.rstate b s.expA s.expC, frmV := false } := by
    rw [parseCycle_eq, consumedByte_onlyRx hs, hdone]
    rfl
  rw [cycle_onlyRx]
  simp only [controller, hs, awaitReply, hdone, hparse, timerCycle_onlyRx]
  cases s.role <;> rfl

/-- The confirming FLAG: the awaited frame is accepted, by role (R225, R226). -/
theorem cycle_onlyRx_flag_of_checksumOk {s : Regs} (hs : s.sess = .openWait) (hr : s.rstate = .checksumOk) :
    cycle (.onlyRx flag) s = accepted s s := by
  have hnext : parseNext s.rstate flag s.expA s.expC = .done := (parseNext_done_iff _ _ _ _).2 ⟨hr, rfl⟩
  have hdone : doneEvent s (.onlyRx flag) = true := doneEvent_iff_confirms.2 ⟨hs, rfl, rfl, hr, rfl⟩
  rw [cycle_onlyRx]
  simp only [controller, hs, awaitReply, hdone, parseCycle_eq, consumedByte_onlyRx hs, hnext, ↓reduceIte]
  cases hrole : s.role with
  | transmitter => rw [accepted, if_pos hrole]; rfl
  | receiver =>
    have hnot : s.role ≠ .transmitter := by simp [hrole]
    rw [accepted, if_neg hnot]; rfl

/-- Outside `OPEN_WAIT` a byte is dropped (R163). -/
theorem cycle_onlyRx_of_ne_openWait (hs : s.sess ≠ .openWait) (b : Byte) :
    cycle (.onlyRx b) s = { s with frmV := false } := by
  rw [cycle_onlyRx]
  cases h : s.sess with
  | openWait => exact absurd h hs
  | closed | openChan | openAck | opened | closing =>
    simp [controller, h, channelOpen, sendingUA, linkOpen, release, command, Input.onlyRx, Input.idle, clearFrameValid]

/-! Several bytes. -/

theorem runCycles_rxCycles_cons (b : Byte) (bs : List Byte) :
    runCycles (rxCycles (b :: bs)) s = runCycles (rxCycles bs) (cycle (.onlyRx b) s) := rfl

/-- Bytes that never enter `Done` move the parser and nothing else. -/
theorem runCycles_rxCycles_of_done_notMem (hs : s.sess = .openWait) {bs : List Byte} (hne : bs ≠ [])
    (h : .done ∉ parseStates bs s.rstate s.expA s.expC) :
    runCycles (rxCycles bs) s = { s with rstate := parseEnd bs s.rstate s.expA s.expC, frmV := false } := by
  induction bs generalizing s with
  | nil => exact absurd rfl hne
  | cons b bs ih =>
    obtain ⟨hb, hbs⟩ := not_or.1 (mt List.mem_cons.2 h)
    rw [runCycles_rxCycles_cons, cycle_onlyRx_of_ne_done hs (Ne.symm hb)]
    cases bs with
    | nil => rfl
    | cons b' bs => exact ih hs (List.cons_ne_nil b' bs) hbs

theorem runCycles_rxCycles_of_ne_openWait (hs : s.sess ≠ .openWait) {bs : List Byte} (hne : bs ≠ []) :
    runCycles (rxCycles bs) s = { s with frmV := false } := by
  induction bs generalizing s with
  | nil => exact absurd rfl hne
  | cons b bs ih =>
    rw [runCycles_rxCycles_cons, cycle_onlyRx_of_ne_openWait hs]
    cases bs with
    | nil => rfl
    | cons b' bs => exact ih hs (List.cons_ne_nil b' bs)

/-! A control frame. -/

/-- Everything turns on the closing FLAG: the four bytes before it only move the parser. -/
theorem receiveFrame_buildFrame (hs : s.sess = .openWait) (hr : s.rstate ≠ .checksumOk) (a c : Byte) :
    receiveFrame (buildFrame a c) s = cycle (.onlyRx flag)
      { s with rstate := parseEnd [a, c, bcc a c] .flagReceived s.expA s.expC, frmV := false } := by
  have hfour := runCycles_rxCycles_of_done_notMem hs (List.cons_ne_nil flag [a, c, bcc a c])
    (done_notMem_parseStates hr a c (bcc a c) s.expA s.expC)
  rw [parseEnd, List.foldl_cons, parseStep_fst, parseNext_flag hr] at hfour
  exact congrArg (cycle (.onlyRx flag)) hfour

/-- The awaited frame, if it is one that the parser can recognise (R156), is accepted. -/
theorem receiveFrame_awaited {s : Regs} (hs : s.sess = .openWait) (hr : s.rstate ≠ .checksumOk) {a c : Byte}
    (hA : s.expA = a) (hC : s.expC = c) (hrec : recognisable a c = true) :
    receiveFrame (buildFrame a c) s = accepted s s := by
  have hend : parseEnd [a, c, bcc a c] .flagReceived s.expA s.expC = .checksumOk := by
    rw [hA, hC, parseEnd_eq_checksumOk_iff]
    simpa [recognisable, and_assoc] using hrec
  calc receiveFrame (buildFrame a c) s
      = cycle (.onlyRx flag) _ := receiveFrame_buildFrame hs hr a c
    _ = accepted _ _ := cycle_onlyRx_flag_of_checksumOk hs hend
    _ = accepted s s := rfl

/-- Any other frame is a mismatch, and its closing FLAG begins a frame (R144, R152). -/
theorem receiveFrame_mismatch (hs : s.sess = .openWait) (hr : s.rstate ≠ .checksumOk) {a c : Byte}
    (h : ¬ (a = s.expA ∧ c = s.expC)) :
    receiveFrame (buildFrame a c) s = { s with rstate := .flagReceived, frmV := false } := by
  have hend : parseEnd [a, c, bcc a c] .flagReceived s.expA s.expC ≠ .checksumOk := fun hk => by
    obtain ⟨⟨-, ha⟩, ⟨-, hc⟩, -⟩ := (parseEnd_eq_checksumOk_iff _ _ _ _ _).1 hk
    exact h ⟨ha, hc⟩
  have hnext := parseNext_flag hend s.expA s.expC
  rw [receiveFrame_buildFrame hs hr, cycle_onlyRx_of_ne_done (by exact hs) (by simp [hnext]), hnext]

theorem receiveFrame_dropped (hs : s.sess ≠ .openWait) (f : Frame) :
    receiveFrame f s = { s with frmV := false } :=
  runCycles_rxCycles_of_ne_openWait hs (List.cons_ne_nil _ _)

/-- A frame row goes on with the registers after its frame. -/
theorem exec_frame_eq_goesOn {i : Instr} {f : Frame} (hi : i.frame? = some f) {s : State} {r : Regs}
    (h : receiveFrame f s.regs = r) : exec i s = s.goesOn r :=
  h ▸ exec_of_frame? hi s

/-- SENDFRAME with nothing else on its line is the reception of that frame (R107). -/
theorem expandLines_sendFrame_nil (a c : Byte) :
    (expandLines [.sendFrame a c []] [] : List (Input wTmr wRetry)) = rxCycles (frameBytes (buildFrame a c)) := rfl

end Sys2Proof.Machine
end

section
/-! The obligations of spec/30_encoding.md. -/

namespace Sys2Proof.Machine

open Sys2Proof.Laws Sys2Proof.Claims

/-- Settles O2: the decoder reads back the ports or the frame, and the row is the one that stands for them. -/
theorem decodeInvertsEncode : Obligations.DecodeInvertsEncode := by
  intro i item hw hencode
  rcases frame?_or_input?_of_encode hencode with ⟨f, hf, rfl⟩ | ⟨inp, hi, rfl⟩
  · obtain ⟨a, c, rfl, rfl⟩ := ofFrame_of_frame? hw hf
    exact decodeFrameWord_pack40 a c
  · rw [← ofInput_of_input? hw hi]
    exact decodeCycle_toWord inp

/-- Settles O3: the row stands for the ports or the frame of the object, which put together are that object. -/
theorem encodeInvertsDecode : Obligations.EncodeInvertsDecode := by
  intro item i hdecode
  cases item with
  | cycle v =>
    obtain ⟨hclear, rfl⟩ := decodeCycle_eq_ok_iff.1 hdecode
    exact ⟨wellFormed_ofInput _, by rw [encode_of_input? (input?_ofInput _), toWord_ofWord hclear]⟩
  | frame v =>
    obtain ⟨a, c, hv, rfl⟩ := buildFrame_of_decodeFrameWord hdecode
    exact ⟨wellFormed_ofFrame a c, by rw [encode_of_frame? (frame?_ofFrame a c), ← hv, pack40_unpack40]⟩

/-- Settles O4: `Input.ofWord` reads the ports at the places of the table, and reads back what was encoded. -/
theorem inputVectorLayout : Obligations.InputVectorLayout := by
  refine ⟨rfl, fun wTmr wRetry i => ?_, fun v hv => if_neg hv, fun _ _ _ hv => toWord_ofWord hv⟩
  have hback := ofWord_toWord i
  have hrole : i.toWord.getLsbD 5 = decide (i.cfgRole = .receiver) := by
    rw [← bit_eq_decide, ← bit_ofBit (i.toWord.getLsbD 5)]
    exact congrArg (fun j => j.cfgRole.bit) hback
  exact ⟨congrArg Input.rst hback, congrArg Input.cmdValid hback, extractLsb'_toWord_cmdOp i, hrole,
    congrArg Input.rxValid hback, extractLsb'_toWord_rxData i, congrArg Input.tick hback,
    congrArg Input.txReady hback, congrArg Input.chanOpenAck hback, congrArg Input.chanOpenFail hback,
    congrArg Input.chanCloseAck hback, congrArg Input.chanErr hback, reservedBits_toWord i,
    extractLsb'_toWord_cfgTimeout i, extractLsb'_toWord_cfgMaxRetry i⟩

/-- Settles O54: SET and UA are frames that the parser can recognise. -/
theorem awaitedFrameIsAccepted : Obligations.AwaitedFrameIsAccepted := by
  intro s hs hA hr
  refine ⟨fun _ hC => ?_, fun _ hC => ?_⟩
  · exact exec_frame_eq_goesOn rfl (receiveFrame_awaited hs hr hA hC (by decide))
  · exact exec_frame_eq_goesOn rfl (receiveFrame_awaited hs hr hA hC (by decide))

/-- Settles O55: in `OPEN_WAIT` the frame differs from the awaited pair, and elsewhere no byte is consumed. -/
theorem otherFramesAreMismatchesOrDropped : Obligations.OtherFramesAreMismatchesOrDropped := by
  intro s a c
  refine ⟨fun hs hA hr => ⟨fun hC => ?set, fun hC => ?ua, fun _ hother => ?ctrl⟩, fun hs => ⟨?_, ?_, ?_⟩⟩
  case set =>
    have hother : ¬ (aCmd = s.regs.expA ∧ cSet = s.regs.expC) := by rw [hC]; exact fun h => absurd h.2 (by decide)
    exact exec_frame_eq_goesOn rfl (receiveFrame_mismatch hs hr hother)
  case ua =>
    have hother : ¬ (aCmd = s.regs.expA ∧ cUa = s.regs.expC) := by rw [hC]; exact fun h => absurd h.2 (by decide)
    exact exec_frame_eq_goesOn rfl (receiveFrame_mismatch hs hr hother)
  case ctrl => exact exec_frame_eq_goesOn rfl (receiveFrame_mismatch hs hr (hA ▸ hother))
  all_goals exact exec_frame_eq_goesOn rfl (receiveFrame_dropped hs _)

/-- Settles O5: each word is the encoding of its row, which O2 decodes. -/
theorem exampleWordsDecode : Obligations.ExampleWordsDecode := by
  refine ⟨?_, ?_, ?_, ?_, ?_, ?_, ?_, ?_, ?_⟩ <;> exact decodeInvertsEncode _ _ rfl rfl

/-- Settles O56: SENDSET and SENDUA are SENDFRAME lines, and a SENDFRAME line with no items is the reception of its
frame. -/
theorem framesAreTheirReceiveCycles : Obligations.FramesAreTheirReceiveCycles := by
  intro s a c xs standing
  refine ⟨?_, ?_, ?_, expandLines_sendFrame_nil a c, ?_, expandLines_sendSet xs [] standing,
    expandLines_sendUa xs [] standing⟩
  · rw [expandLines_sendSet, expandLines_sendFrame_nil]
    exact exec_frame_eq_goesOn rfl rfl
  · rw [expandLines_sendUa, expandLines_sendFrame_nil]
    exact exec_frame_eq_goesOn rfl rfl
  · rw [expandLines_sendFrame_nil]
    exact exec_frame_eq_goesOn rfl rfl
  · exact List.append_nil _

end Sys2Proof.Machine
end

section
/-! The codec's functions (R120 to R125): the well-formed frames of R92, and what the XOR check distinguishes. -/

namespace Sys2Proof.Machine

open Sys2Proof.Laws

/-! BCC (R121) and its check (R122). -/

theorem bccCheck_eq_decide (a c k : Byte) : bccCheck a c k = decide (k = bcc a c) := rfl

/-- The right BCC passes the check (law L2 of R127). -/
theorem bccCheck_bcc (a c : Byte) : bccCheck a c (bcc a c) = true := beq_self_eq_true _

/-- Two addresses with one BCC and one control byte are equal. -/
theorem bcc_left_inj {a b c : Byte} : bcc a c = bcc b c ↔ a = b := BitVec.xor_left_inj c

/-- Two control bytes with one BCC and one address are equal. -/
theorem bcc_right_inj {a b c : Byte} : bcc a b = bcc a c ↔ b = c := BitVec.xor_right_inj a

/-- The same change to both bytes leaves the BCC as it was. -/
theorem bcc_xor_xor (a c m : Byte) : bcc (a ^^^ m) (c ^^^ m) = bcc a c := by
  calc (a ^^^ m) ^^^ (c ^^^ m)
      = (a ^^^ c) ^^^ (m ^^^ m) := by ac_rfl
    _ = a ^^^ c := by rw [BitVec.xor_self, BitVec.xor_zero]

/-- Changing one bit of a byte changes the byte. -/
theorem xor_bit_ne_self (a : Byte) (i : Fin 8) : a ^^^ (1#8 <<< i.val) ≠ a := by
  have hbit : (1#8 <<< i.val : Byte) ≠ 0 := by revert i; decide
  exact fun h => hbit ((BitVec.xor_right_inj a).1 (h.trans BitVec.xor_zero.symm))

/-! Whole frames: DECODE_FRAME (R123). -/

theorem decodeFrame_eq_ite (f : Frame) :
    decodeFrame f = if f.opening = flag ∧ f.closing = flag ∧ f.bcc = bcc f.addr f.ctrl then
      some (f.addr, f.ctrl) else none := by
  simp [decodeFrame, bccCheck, and_assoc]

/-- The frames that decode are those of R92. -/
theorem decodeFrame_ne_none_iff {f : Frame} :
    decodeFrame f ≠ none ↔ f.opening = flag ∧ f.closing = flag ∧ f.bcc = bcc f.addr f.ctrl := by
  simp [decodeFrame_eq_ite]

/-- A frame decodes to a pair exactly when it is built from that pair (laws L1 and L3 of R127). -/
theorem decodeFrame_eq_some_iff {f : Frame} {a c : Byte} : decodeFrame f = some (a, c) ↔ f = buildFrame a c := by
  constructor
  · intro h
    obtain ⟨hopening, hclosing, hbcc⟩ := decodeFrame_ne_none_iff.1 (h ▸ Option.some_ne_none _)
    rw [decodeFrame_eq_ite, if_pos ⟨hopening, hclosing, hbcc⟩] at h
    cases h
    exact eq_buildFrame hopening hclosing hbcc
  · rintro rfl
    exact decodeFrame_buildFrame a c

/-- A frame whose BCC is wrong does not decode. -/
theorem decodeFrame_eq_none_of_bcc_ne {f : Frame} (h : f.bcc ≠ bcc f.addr f.ctrl) : decodeFrame f = none := by
  rw [decodeFrame_eq_ite, if_neg fun ⟨_, _, hbcc⟩ => h hbcc]

/-! PACK40 (R125). -/

theorem exec_pack40 (s : State) (f : Frame) : exec (.pack40 (.pack f)) s = s.returns (.word40 (pack40 f)) := rfl

theorem exec_unpack40 (s : State) (v : FrameWord) :
    exec (.pack40 (.unpack v)) s = s.returns (.frame (unpack40 v)) := rfl

end Sys2Proof.Machine
end

section
/-! The parser fed the five bytes of a frame (R142 to R146, R149). -/

namespace Sys2Proof.Machine

open Sys2Proof.Laws

theorem parseEnd_append (xs ys : List Byte) (st : RState) (ea ec : Byte) :
    parseEnd (xs ++ ys) st ea ec = parseEnd ys (parseEnd xs st ea ec) ea ec := List.foldl_append

theorem parseFrames_append (xs ys : List Byte) (st : RState) (ea ec : Byte) :
    parseFrames (xs ++ ys) st ea ec = parseFrames xs st ea ec ++ parseFrames ys (parseEnd xs st ea ec) ea ec := by
  induction xs generalizing st with
  | nil => rfl
  | cons x xs ih =>
    rw [List.cons_append, parseFrames, ih, parseFrames, List.append_assoc]
    rfl

/-- A frame comes out on entering `Done` only (R149). -/
theorem parseFrames_of_done_notMem {bs : List Byte} {st : RState} {ea ec : Byte}
    (h : .done ∉ parseStates bs st ea ec) : parseFrames bs st ea ec = [] := by
  induction bs generalizing st with
  | nil => rfl
  | cons b bs ih =>
    obtain ⟨hb, hbs⟩ := not_or.1 (mt List.mem_cons.2 h)
    have hnone : (parseStep st b ea ec).2 = none := if_neg (Ne.symm hb)
    rw [parseFrames, hnone]
    exact ih hbs

/-- The recognisable pairs, with the constant written out (R156). -/
theorem recognisable_iff {a c : Byte} : recognisable a c = true ↔ a ≠ 0x7E ∧ c ≠ 0x7E ∧ a ^^^ c ≠ 0x7E := by
  simp [recognisable, flag, bcc, and_assoc]

/-- From `Start` only a FLAG begins a frame (R142). -/
theorem parseNext_start_flagReceived_iff (b ea ec : Byte) : parseNext .start b ea ec = .flagReceived ↔ b = flag := by
  simp [parseNext]

/-- Started in `Start`, the parser ends a frame's five bytes in `Done` exactly when they are those of the awaited frame
and none of its fields is FLAG. -/
theorem parseEnd_frameBytes_eq_done_iff (f : Frame) (ea ec : Byte) :
    parseEnd (frameBytes f) .start ea ec = .done ↔ f = buildFrame ea ec ∧ recognisable ea ec = true := by
  have hrows : parseEnd (frameBytes f) .start ea ec = .done ↔
      (((f.opening = flag ∧ f.addr ≠ flag ∧ f.addr = ea) ∧ f.ctrl ≠ flag ∧ f.ctrl = ec) ∧
        f.bcc ≠ flag ∧ f.bcc = bcc ea ec) ∧ f.closing = flag := by
    simp only [frameBytes, parseEnd, List.foldl_cons, List.foldl_nil, parseStep_fst, parseNext_done_iff,
      parseNext_checksumOk_iff, parseNext_controlReceived_iff, parseNext_addressReceived_iff,
      parseNext_start_flagReceived_iff]
  rw [hrows]
  cases f
  simp only [buildFrame, recognisable, Frame.mk.injEq, Bool.and_eq_true, bne_iff_ne]
  constructor
  · rintro ⟨⟨⟨⟨rfl, ha, rfl⟩, hc, rfl⟩, hk, rfl⟩, rfl⟩
    exact ⟨⟨rfl, rfl, rfl, rfl, rfl⟩, ⟨ha, hc⟩, hk⟩
  · rintro ⟨⟨rfl, rfl, rfl, rfl, rfl⟩, ⟨ha, hc⟩, hk⟩
    exact ⟨⟨⟨⟨rfl, ha, rfl⟩, hc, rfl⟩, hk, rfl⟩, rfl⟩

/-- The awaited frame comes out once, on its closing FLAG. -/
theorem parseFrames_frameBytes_buildFrame {a c : Byte} (h : recognisable a c = true) :
    parseFrames (frameBytes (buildFrame a c)) .start a c = [buildFrame a c] := by
  have hbytes : frameBytes (buildFrame a c) = [flag, a, c, bcc a c] ++ [flag] := rfl
  have hend := (parseEnd_frameBytes_eq_done_iff (buildFrame a c) a c).2 ⟨rfl, h⟩
  rw [hbytes, parseEnd_append] at hend
  have hlast : parseFrames [flag] (parseEnd [flag, a, c, bcc a c] .start a c) a c = [buildFrame a c] := by
    have hout : (parseStep (parseEnd [flag, a, c, bcc a c] .start a c) flag a c).2 = some (buildFrame a c) :=
      if_pos hend
    rw [parseFrames, hout]
    rfl
  have hquiet := parseFrames_of_done_notMem (done_notMem_parseStates (st := .start) nofun a c (bcc a c) a c)
  rw [hbytes, parseFrames_append, hquiet, hlast]
  rfl

end Sys2Proof.Machine
end

section
/-! The obligations of spec/40_codec.md. -/

namespace Sys2Proof.Machine

open Sys2Proof.Laws

/-- Settles O9: the frames that decode, and those that the parser verifies, are the built ones; a change to one byte
breaks the BCC equation, and the same change to ADDR and CTRL cancels in it. -/
theorem codecAndParserAgree : Obligations.CodecAndParserAgree := by
  refine ⟨decodeFrame_buildFrame, bccCheck_bcc, fun _ _ _ => decodeFrame_eq_some_iff.1, fun f a c => ?parser,
    fun f hf b => ?single, fun f i hf => ?double⟩
  case parser =>
    rw [decodeFrame_eq_some_iff, parseEnd_frameBytes_eq_done_iff, ← recognisable_iff]
    refine and_iff_left_of_imp ?_
    rintro ⟨rfl, hrec⟩
    rw [parseFrames_frameBytes_buildFrame hrec, List.length_singleton]
  case single =>
    obtain ⟨-, -, hbcc⟩ := decodeFrame_ne_none_iff.1 hf
    refine ⟨fun hb => ?_, fun hb => ?_, fun hb => ?_⟩ <;> apply decodeFrame_eq_none_of_bcc_ne
    · exact fun h => hb (bcc_left_inj.1 (h.symm.trans hbcc))
    · exact fun h => hb (bcc_right_inj.1 (h.symm.trans hbcc))
    · exact fun h => hb (h.trans hbcc.symm)
  case double =>
    obtain ⟨hopening, hclosing, hbcc⟩ := decodeFrame_ne_none_iff.1 hf
    intro m g
    have hg : g = buildFrame g.addr g.ctrl :=
      eq_buildFrame hopening hclosing (hbcc.trans (bcc_xor_xor f.addr f.ctrl m).symm)
    refine ⟨decodeFrame_eq_some_iff.2 hg, xor_bit_ne_self f.addr i, xor_bit_ne_self f.ctrl i, ?_⟩
    intro ea ec hne hdone
    obtain ⟨hawaited, -⟩ := (parseEnd_frameBytes_eq_done_iff g ea ec).1 hdone
    exact hne (by rw [hawaited]; rfl)

/-- Settles O8: both directions are slices and their concatenation. -/
theorem packAndUnpackAreInverses : Obligations.PackAndUnpackAreInverses :=
  ⟨fun s f v => ⟨exec_pack40 s f, exec_unpack40 s v, unpack40_pack40 f, pack40_unpack40 v⟩, rfl⟩

/-- A byte is taken when the transmitter offers it and the channel is ready (R201). -/
theorem takenByte_eq_some_iff {wTmr wRetry : Nat} {r : Regs wTmr wRetry} {inp : Input wTmr wRetry} {b : Byte} :
    takenByte r inp = some b ↔ (r.txb = true ∧ inp.txReady = true) ∧ frameByte r.txf r.txi = b := by
  simp [takenByte, txAccepted]

/-- Settles O46: the clause `sender` of the invariants, at the reachable states. -/
theorem onlySetAndUaAreSent : Obligations.OnlySetAndUaAreSent := by
  refine ⟨rfl, rfl, ?_⟩
  intro ins inp b htaken r
  obtain ⟨⟨hsending, -⟩, hb⟩ := takenByte_eq_some_iff.1 htaken
  have hframe : r.txf = if r.role = .transmitter then setFrame else uaFrame :=
    (inv_reset.after_runCycles ins).sender hsending
  rw [← hb, ← apply_ite (frameByte · r.txi), ← hframe]

/-- Settles O6: the laws of the bitwise exclusive OR, 0xFF being all ones. -/
theorem bccIsBitwiseXor : Obligations.BccIsBitwiseXor := fun _ a c =>
  ⟨rfl, fun _ => BitVec.getLsbD_xor, BitVec.xor_self, BitVec.xor_zero, BitVec.xor_allOnes, BitVec.xor_comm a c, rfl⟩

/-- Settles O7: each row returns the value of its function, which its rule writes out. -/
theorem codecFunctionsReturnTheirValues : Obligations.CodecFunctionsReturnTheirValues := by
  intro s f a c k
  refine ⟨rfl, ?_, ?_, rfl⟩
  · exact congrArg (fun v => s.returns (.bool v)) (bccCheck_eq_decide a c k)
  · exact congrArg (fun v => s.returns (.pair v)) (decodeFrame_eq_ite f)

end Sys2Proof.Machine
end

section
/-! The parser along a stream of bytes: what it has read of the awaited frame in each state (R142 to R146), where it
enters `Done`, and what becomes of noise, of frames in a row (R157, R158) and of the row `Done` (R147). -/

namespace Sys2Proof.Machine

open Sys2Proof.Laws Sys2Proof.Claims

variable {ea ec : Byte}

/-! One step. -/

/-- A frame comes out of `ChecksumOk` only, the one state before `Done` (R146, R149). -/
theorem parseStep_of_ne_checksumOk {st : RState} (h : st ≠ .checksumOk) (b ea ec : Byte) :
    parseStep st b ea ec = (parseNext st b ea ec, none) := by
  have hnext : parseNext st b ea ec ≠ .done := fun hd => h ((parseNext_done_iff st b ea ec).1 hd).1
  exact congrArg (Prod.mk _) (if_neg hnext)

/-- A FLAG that does not confirm a frame begins one (R148). -/
theorem parseNext_flag_of_ne_done {st : RState} (h : parseNext st flag ea ec ≠ .done) :
    parseNext st flag ea ec = .flagReceived :=
  parseNext_flag (fun hst => h ((parseNext_done_iff st flag ea ec).2 ⟨hst, rfl⟩)) ea ec

theorem parseNext_flagReceived_iff (st : RState) (b ea ec : Byte) :
    parseNext st b ea ec = .flagReceived ↔ st ≠ .checksumOk ∧ b = flag := by
  cases st <;> simp only [parseNext] <;> split_ifs <;> simp_all

/-- PARSE_STEP returns the two components of `parseStep` (R141). -/
theorem exec_parseStep (st : RState) (b ea ec : Byte) (s : State) :
    exec (.parseStep st b ea ec) s =
      s.returns (.parsed (parseStep st b ea ec).1 (parseStep st b ea ec).2) := rfl

theorem exec_parseStep_of_ne_checksumOk {st : RState} (h : st ≠ .checksumOk) (b ea ec : Byte) (s : State) :
    exec (.parseStep st b ea ec) s = s.returns (.parsed (parseNext st b ea ec) none) := by
  rw [exec_parseStep, parseStep_of_ne_checksumOk h]

/-! Where the parser enters `Done`. -/

/-- The bytes of the awaited frame that the parser has read when it is in a recognition state. -/
def readSoFar (ea ec : Byte) : RState → List Byte
  | .start => []
  | .flagReceived => [flag]
  | .addressReceived => [flag, ea]
  | .controlReceived => [flag, ea, ec]
  | .checksumOk => [flag, ea, ec, bcc ea ec]
  | .done => [flag, ea, ec, bcc ea ec, flag]

/-- Each row either reads the next byte of the frame or begins again. -/
theorem readSoFar_parseNext (st : RState) (b ea ec : Byte) :
    readSoFar ea ec (parseNext st b ea ec) <:+ readSoFar ea ec st ++ [b] := by
  cases hnext : parseNext st b ea ec with
  | start => exact List.nil_suffix
  | flagReceived =>
    obtain ⟨-, rfl⟩ := (parseNext_flagReceived_iff st b ea ec).1 hnext
    exact List.suffix_append _ _
  | addressReceived =>
    obtain ⟨rfl, -, rfl⟩ := (parseNext_addressReceived_iff st b ea ec).1 hnext
    exact List.suffix_rfl
  | controlReceived =>
    obtain ⟨rfl, -, rfl⟩ := (parseNext_controlReceived_iff st b ea ec).1 hnext
    exact List.suffix_rfl
  | checksumOk =>
    obtain ⟨rfl, -, rfl⟩ := (parseNext_checksumOk_iff st b ea ec).1 hnext
    exact List.suffix_rfl
  | done =>
    obtain ⟨rfl, rfl⟩ := (parseNext_done_iff st b ea ec).1 hnext
    exact List.suffix_rfl

/-- The bytes that the state stands for are those just consumed. -/
theorem readSoFar_parseEnd (bs : List Byte) (ea ec : Byte) : readSoFar ea ec (parseEnd bs .start ea ec) <:+ bs := by
  induction bs using List.reverseRecOn with
  | nil => exact List.nil_suffix
  | append_singleton bs b ih =>
    rw [parseEnd_append]
    exact (readSoFar_parseNext _ b ea ec).trans ((List.suffix_append_inj_of_length_eq rfl).2 ⟨ih, rfl⟩)

/-- A state that occurs along a stream is the one after some part of it. -/
theorem exists_prefix_of_mem_parseStates {bs : List Byte} {st st' : RState} (h : st' ∈ parseStates bs st ea ec) :
    ∃ before, before <+: bs ∧ parseEnd before st ea ec = st' := by
  induction bs generalizing st with
  | nil => cases h
  | cons b bs ih =>
    rcases List.mem_cons.1 h with rfl | htail
    · exact ⟨[b], List.prefix_append [b] bs, rfl⟩
    · obtain ⟨before, hprefix, hend⟩ := ih htail
      exact ⟨b :: before, List.cons_prefix_cons.2 ⟨rfl, hprefix⟩, hend⟩

/-- Five bytes can enter `Done` with the last of them only. -/
theorem done_notMem_parseStates_frameBytes {f : Frame} (h : parseEnd (frameBytes f) .start ea ec ≠ .done) :
    .done ∉ parseStates (frameBytes f) .start ea ec := by
  intro hmem
  obtain ⟨before, hprefix, hend⟩ := exists_prefix_of_mem_parseStates hmem
  have hread : readSoFar ea ec .done <:+ before := hend ▸ readSoFar_parseEnd before ea ec
  have hall : before = frameBytes f := hprefix.eq_of_length_le hread.length_le
  exact h (hall ▸ hend)

/-! One byte of a frame changed. -/

theorem exists_frameBytes_of_length {bs : List Byte} (h : bs.length = 5) : ∃ f, frameBytes f = bs :=
  match bs, h with
  | [opening, addr, ctrl, bcc, closing], _ => ⟨⟨opening, addr, ctrl, bcc, closing⟩, rfl⟩

/-- Byte `i` of a frame stands at place `i` on the wire (R91). -/
theorem getElem?_frameBytes (f : Frame) (i : Fin 5) : (frameBytes f)[i.val]? = some (frameByte f i) := by
  fin_cases i <;> rfl

/-- Five bytes with one of them replaced are the bytes of the frame with that byte replaced. -/
theorem exists_frameBytes_eq_set (f : Frame) (i : Fin 5) (b : Byte) :
    ∃ g, frameBytes g = (frameBytes f).set i.val b ∧
      ∀ j, frameByte g j = if j = i then b else frameByte f j := by
  obtain ⟨g, hg⟩ := exists_frameBytes_of_length (bs := (frameBytes f).set i.val b) List.length_set
  refine ⟨g, hg, fun j => Option.some.inj ?_⟩
  rw [← getElem?_frameBytes g j, hg, List.getElem?_set, apply_ite some, ← getElem?_frameBytes f j]
  simp [frameBytes, Fin.val_inj, eq_comm]

/-- The last byte of a frame decides where the parser ends. -/
theorem parseEnd_frameBytes (f : Frame) (st : RState) (ea ec : Byte) :
    parseEnd (frameBytes f) st ea ec =
      parseNext (parseEnd [f.opening, f.addr, f.ctrl, f.bcc] st ea ec) f.closing ea ec := rfl

/-! The awaited frame, after noise and after another one. -/

section
variable {a c : Byte} (h : recognisable a c = true)
include h

/-- The bytes of the awaited frame up to its closing FLAG reach `ChecksumOk` from `Start`. -/
theorem parseEnd_awaited_checksumOk : parseEnd [flag, a, c, bcc a c] .start a c = .checksumOk := by
  obtain ⟨ha, hc, hk⟩ := recognisable_iff.1 h
  exact (parseEnd_eq_checksumOk_iff a c (bcc a c) a c).2 ⟨⟨ha, rfl⟩, ⟨hc, rfl⟩, hk, rfl⟩

theorem parseStates_frameBytes_buildFrame : parseStates (frameBytes (buildFrame a c)) .start a c = fiveStates := by
  obtain ⟨ha, hc, hk⟩ := recognisable_iff.1 h
  have haddr : parseNext .flagReceived a a c = .addressReceived :=
    (parseNext_addressReceived_iff _ _ _ _).2 ⟨rfl, ha, rfl⟩
  have hctrl : parseNext .addressReceived c a c = .controlReceived :=
    (parseNext_controlReceived_iff _ _ _ _).2 ⟨rfl, hc, rfl⟩
  have hbcc : parseNext .controlReceived (bcc a c) a c = .checksumOk :=
    (parseNext_checksumOk_iff _ _ _ _).2 ⟨rfl, hk, rfl⟩
  simp only [frameBytes, buildFrame, parseStates, parseStep_fst, parseNext_flag (st := .start) nofun, haddr, hctrl,
    hbcc]
  rfl

end

theorem parseStates_append (xs ys : List Byte) (st : RState) (ea ec : Byte) :
    parseStates (xs ++ ys) st ea ec = parseStates xs st ea ec ++ parseStates ys (parseEnd xs st ea ec) ea ec := by
  induction xs generalizing st with
  | nil => rfl
  | cons x xs ih => exact congrArg (List.cons _) (ih _)

/-- Without a FLAG the parser stays in `Start` (R142). -/
theorem parseStates_noise {noise : List Byte} (h : ∀ b ∈ noise, b ≠ flag) (ea ec : Byte) :
    parseStates noise .start ea ec = List.replicate noise.length .start ∧ parseEnd noise .start ea ec = .start := by
  induction noise with
  | nil => exact ⟨rfl, rfl⟩
  | cons b noise ih =>
    obtain ⟨hb, hnoise⟩ := List.forall_mem_cons.1 h
    have hnext : (parseStep .start b ea ec).1 = .start := if_neg hb
    obtain ⟨hstates, hend⟩ := ih hnoise
    rw [parseStates, parseEnd, List.foldl_cons, hnext, hstates]
    exact ⟨rfl, hend⟩

/-- A stream that arrives in `Done` is read as one that arrives in `Start` (R147). -/
theorem parseStates_done (bs : List Byte) (ea ec : Byte) :
    parseStates bs .done ea ec = parseStates bs .start ea ec := by
  cases bs <;> rfl

theorem parseFrames_done (bs : List Byte) (ea ec : Byte) :
    parseFrames bs .done ea ec = parseFrames bs .start ea ec := by
  cases bs <;> rfl

end Sys2Proof.Machine
end

section
/-! The parser's part of a cycle (R160 to R164): the byte that it consumes, and what it writes. -/

namespace Sys2Proof.Machine

open Sys2Proof.Laws

variable {wTmr wRetry : Nat} {s : Regs wTmr wRetry} {inp : Input wTmr wRetry}

/-- The consumed byte (R162). -/
theorem consumedByte_eq_ite (s : Regs wTmr wRetry) (inp : Input wTmr wRetry) :
    consumedByte s inp =
      if s.sess = .openWait ∧ inp.rxValid = true ∧ inp.chanErr = false then some inp.rxData else none := by
  split
  case isTrue h => exact consumedByte_eq_some.2 ⟨h.1, h.2.2, h.2.1, rfl⟩
  case isFalse h =>
    refine Option.eq_none_iff_forall_ne_some.2 fun b hb => h ?_
    obtain ⟨hs, herr, hrx, -⟩ := consumedByte_eq_some.1 hb
    exact ⟨hs, hrx, herr⟩

/-- What the parser writes in a cycle, in the words of R160. -/
theorem parseCycle_self (inp : Input wTmr wRetry) (s : Regs wTmr wRetry) :
    parseCycle inp s s =
      if s.sess = .openWait ∧ inp.rxValid = true ∧ inp.chanErr = false then
        { s with
          rstate := parseNext s.rstate inp.rxData s.expA s.expC
          frmV := decide (s.rstate = .checksumOk ∧ inp.rxData = flag) }
      else { s with frmV := false } := by
  have hbyte := consumedByte_eq_ite s inp
  rw [parseCycle_eq]
  split_ifs with h
  case pos =>
    rw [if_pos h] at hbyte
    have hdone : doneEvent s inp = decide (s.rstate = .checksumOk ∧ inp.rxData = flag) := by
      simp [doneEvent, hbyte, parseStep_fst, parseNext_done_iff]
    rw [hbyte, hdone]
  case neg =>
    rw [if_neg h] at hbyte
    rw [hbyte, doneEvent_of_no_byte hbyte]

/-- RX_BYTE is the cycle with that byte alone (R104). -/
theorem exec_rxByte (b : Byte) (s : State) : exec (.rxByte b) s = s.goesOn (cycle (.onlyRx b) s.regs) :=
  (exec_of_input? rfl s).trans (runCycle_ordinary rfl s)

/-- Only the parser reads the receive port, in `OPEN_WAIT` and without `chan_err` (R162, R163). -/
theorem cycle_rx_eq (h : s.sess ≠ .openWait ∨ inp.chanErr = true) (valid : Bool) (b : Byte) :
    cycle { inp with rxValid := valid, rxData := b } s = cycle inp s := by
  unfold cycle
  split
  · rfl
  · unfold controller
    split
    -- `OPEN_WAIT`
    case h_3 hs =>
      have herr : inp.chanErr = true := h.resolve_left fun hne => hne hs
      exact (if_pos herr).trans (if_pos herr).symm
    all_goals rfl

end Sys2Proof.Machine
end

section
/-! The obligations of spec/41_parser.md. -/

namespace Sys2Proof.Machine

open Sys2Proof.Laws Sys2Proof.Claims

/-- Settles O12: in `Done` the bytes read so far are the whole frame, and they are the end of the stream. -/
theorem verifiedFrameIsWhatWasReceived : Obligations.VerifiedFrameIsWhatWasReceived := by
  refine ⟨fun _ _ _ _ => rfl, fun bs ea ec hdone => ?_⟩
  have hread := readSoFar_parseEnd bs ea ec
  rw [hdone] at hread
  obtain ⟨before, hbs⟩ := hread
  exact ⟨before, hbs.symm⟩

/-- Settles O13: the changed bytes are those of another frame, which does not end in `Done`; a closing FLAG then begins
a frame, and any other closing byte leads to `Start`. -/
theorem corruptedFrameIsNeverVerified : Obligations.CorruptedFrameIsNeverVerified := by
  intro a c ha hc hk i b hb
  have hrec : recognisable a c = true := recognisable_iff.2 ⟨ha, hc, hk⟩
  obtain ⟨g, hbytes, hg⟩ := exists_frameBytes_eq_set (buildFrame a c) i b
  have hnot : parseEnd (frameBytes g) .start a c ≠ .done := fun hdone => by
    obtain ⟨hsame, -⟩ := (parseEnd_frameBytes_eq_done_iff g a c).1 hdone
    exact hb (by rw [← hsame, hg, if_pos rfl])
  dsimp only
  rw [← hbytes]
  refine ⟨List.forall_mem_ne'.2 (done_notMem_parseStates_frameBytes hnot), ?_⟩
  split
  case isTrue hi =>
    subst hi
    have hopening : g.opening = flag := hg 0
    have haddr : g.addr = a := hg 1
    have hctrl : g.ctrl = c := hg 2
    have hbcc : g.bcc = bcc a c := hg 3
    have hclosing : g.closing = b := hg 4
    rw [parseEnd_frameBytes, hopening, haddr, hctrl, hbcc, hclosing, parseEnd_awaited_checksumOk hrec]
    exact if_neg hb
  case isFalse hi =>
    have hclosing : g.closing = flag := (hg 4).trans (if_neg (Ne.symm hi))
    rw [parseEnd_frameBytes, hclosing] at hnot ⊢
    exact parseNext_flag_of_ne_done hnot

/-- Settles O14: noise leaves the parser in `Start`, and `Done` is processed as `Start`. -/
theorem noiseAndBackToBackFrames : Obligations.NoiseAndBackToBackFrames := by
  intro a c ha hc hk
  have hrec : recognisable a c = true := recognisable_iff.2 ⟨ha, hc, hk⟩
  have hstates := parseStates_frameBytes_buildFrame hrec
  have hframes := parseFrames_frameBytes_buildFrame hrec
  have hend : parseEnd (frameBytes (buildFrame a c)) .start a c = .done :=
    (parseEnd_frameBytes_eq_done_iff _ a c).2 ⟨rfl, hrec⟩
  refine ⟨fun noise hnoise => ?_, ?_, ?_⟩
  · obtain ⟨hskip, hstart⟩ := parseStates_noise hnoise a c
    have hnone : parseFrames noise .start a c = [] :=
      parseFrames_of_done_notMem (by rw [hskip]; simp [List.mem_replicate])
    rw [parseStates_append, parseFrames_append, hskip, hstart, hstates, hnone, hframes]
    exact ⟨rfl, rfl⟩
  · rw [parseStates_append, hend, parseStates_done, hstates]
  · rw [parseFrames_append, hend, parseFrames_done, hframes]
    rfl

/-- Settles O15: five bytes end in `Done` for a recognisable pair only. -/
theorem unrecognisablePairIsNeverVerified : Obligations.UnrecognisablePairIsNeverVerified := by
  intro a c hflag
  refine List.forall_mem_ne'.2 (done_notMem_parseStates_frameBytes fun hdone => ?_)
  obtain ⟨-, hrec⟩ := (parseEnd_frameBytes_eq_done_iff _ a c).1 hdone
  obtain ⟨ha, hc, hk⟩ := recognisable_iff.1 hrec
  exact hflag.elim ha fun h => h.elim hc hk

/-- Settles O16: the confirming FLAG is the one byte that enters `Done`. -/
theorem receivedByteInOpenWait : Obligations.ReceivedByteInOpenWait := by
  intro s b hs
  rw [exec_rxByte]
  split
  case isTrue h =>
    obtain ⟨hr, rfl⟩ := h
    rw [← cycle_onlyRx_flag_of_checksumOk hs hr]
    rfl
  case isFalse h => rw [cycle_onlyRx_of_ne_done hs (mt (parseNext_done_iff _ _ _ _).1 h), parseStep_fst]

/-- Settles O17: no byte is consumed there, and nothing else reads the receive port. -/
theorem otherReceivedBytesAreDropped : Obligations.OtherReceivedBytesAreDropped := by
  refine ⟨fun s b hs => ?_, fun inp r b h => ?_⟩
  · rw [exec_rxByte, cycle_onlyRx_of_ne_openWait hs]
  · exact (cycle_rx_eq h true b).trans (cycle_rx_eq h false inp.rxData).symm

/-- Settles O18: such a cycle keeps the record but for what the parser writes. -/
theorem onlyBytesAndOpenWriteTheParser : Obligations.OnlyBytesAndOpenWriteTheParser := by
  intro inp r hrst hopen
  rw [presents_opn_iff] at hopen
  have hrec := sameRecord_cycle hrst hopen
  have hparse : (cycle inp r).rstate = (parseCycle inp r r).rstate := hrec.rstate
  refine ⟨?_, ?_, ?_⟩
  · rw [hrec.expA, recorded, parseCycle_eq]
  · rw [hrec.expC, recorded, parseCycle_eq]
  · rw [hparse, parseCycle_self, apply_ite Regs.rstate]
    exact if_congr and_left_comm rfl rfl

/-- Settles O10: the rows of `parseNext`, of which `ChecksumOk` alone can enter `Done`. -/
theorem parserRowsFollowTheTable : Obligations.ParserRowsFollowTheTable := by
  intro s b ea ec
  refine ⟨exec_parseStep_of_ne_checksumOk (by decide) b ea ec s,
    exec_parseStep_of_ne_checksumOk (by decide) b ea ec s,
    exec_parseStep_of_ne_checksumOk (by decide) b ea ec s, ?controlReceived, ?checksumOk, fun st hst => ?flag⟩
  case controlReceived =>
    rw [exec_parseStep_of_ne_checksumOk (st := .controlReceived) nofun, parseNext, bccCheck_eq_decide]
    simp only [decide_eq_true_eq]
    rfl
  case checksumOk =>
    rw [exec_parseStep]
    split
    case isTrue hb => subst hb; rfl
    case isFalse hb =>
      have hnext : parseNext .checksumOk b ea ec = .start := if_neg hb
      rw [parseStep, hnext]
      rfl
  case flag => rw [exec_parseStep_of_ne_checksumOk hst, ← parseNext_flag hst ea ec]; rfl

/-- Settles O11: the two rows are one, and a FLAG that confirms nothing begins a frame. -/
theorem doneActsAsStartAndFlagComesFirst : Obligations.DoneActsAsStartAndFlagComesFirst := by
  intro s b ea ec
  refine ⟨rfl, exec_parseStep_of_ne_checksumOk (by decide) b ea ec s, fun st hst => ?_⟩
  exact (parseStep_of_ne_checksumOk hst flag ea ec).trans (by rw [parseNext_flag hst])

/-- Settles O20: PARSE_STEP_CYCLE is the parser's part of a cycle, applied to the whole state. -/
theorem parserMicroOperations : Obligations.ParserMicroOperations := fun s inp =>
  ⟨rfl, congrArg s.goesOn (parseCycle_self inp s.regs)⟩

end Sys2Proof.Machine
end

section
/-! The timer in a cycle: where a tick is read (R177), and what a transmitter that awaits UA does in a cycle with no
event of higher priority (R174 to R181, R188). -/

namespace Sys2Proof.Machine

open Sys2Proof.Laws

variable {wTmr wRetry : Nat} {s n : Regs wTmr wRetry} {inp : Input wTmr wRetry}

/-- The count that an expiry writes, where it fits (R178, R186). -/
theorem toNat_nextRetry (h : s.retryCnt.toNat + 1 < 2 ^ wRetry) : (nextRetry s).toNat = s.retryCnt.toNat + 1 := by
  have hone : 1 < 2 ^ wRetry := by omega
  simp [nextRetry, expiries, h, Nat.mod_eq_of_lt, hone]

/-- By INV5 the count always fits: it is at most `max(MAXR, 1)` (R186). -/
theorem toNat_nextRetry_of_lt {s : Regs} (h : s.retryCnt.toNat < max s.maxr.toNat 1) :
    (nextRetry s).toNat = s.retryCnt.toNat + 1 :=
  toNat_nextRetry (by have := s.maxr.isLt; simp only [Config.wRetry] at *; omega)

/-- A tick count of at least 1 goes down by one. -/
theorem toNat_sub_one {w : Nat} {c : BitVec w} (h : 1 ≤ c.toNat) : (c - 1).toNat = c.toNat - 1 := by
  have hone : 1 < 2 ^ w := by have := c.isLt; omega
  rw [BitVec.toNat_sub_of_le] <;> simp [BitVec.le_def, Nat.mod_eq_of_lt hone, h]

/-! Where a tick is read. -/

/-- The timer does not look at a tick unless it runs (R177). -/
theorem timerCycle_tick_eq (h : s.tmrSt ≠ .run) (t txdone : Bool) :
    timerCycle { inp with tick := t } txdone s n = timerCycle inp txdone s n := by
  simp [timerCycle, countTick, h]

theorem awaitReply_tick_eq (h : s.role ≠ .transmitter ∨ s.tmrSt ≠ .run) (t txdone : Bool) :
    awaitReply { inp with tick := t } txdone s n = awaitReply inp txdone s n := by
  cases hr : s.role with
  | receiver => simp only [awaitReply, hr]; rfl
  | transmitter =>
    have hrun : s.tmrSt ≠ .run := h.resolve_left (· hr)
    simp only [awaitReply, hr, timerCycle_tick_eq hrun]; rfl

/-- The timer of a waiting transmitter is the one reader of `tick` (R177, R220). -/
theorem cycle_tick_eq (h : s.sess ≠ .openWait ∨ s.role ≠ .transmitter ∨ s.tmrSt ≠ .run) (t : Bool) :
    cycle { inp with tick := t } s = cycle inp s := by
  unfold cycle
  split
  · rfl
  · unfold controller
    split
    -- `OPEN_WAIT`
    case h_3 hs => exact awaitReply_tick_eq (h.resolve_left (· hs)) t _
    all_goals rfl

/-! A wait without an event of higher priority. -/

/-- Without `chan_err` and without a Done event, the wait is the parser's and, in a transmitter, the timer's. -/
theorem awaitReply_of_no_event (herr : inp.chanErr = false) (hdone : doneEvent s inp = false) (txdone : Bool) :
    awaitReply inp txdone s n =
      if s.role = .transmitter then timerCycle inp txdone s (parseCycle inp s n) else parseCycle inp s n := by
  rw [awaitReply, herr, hdone, if_neg Bool.false_ne_true]
  cases s.role <;> rfl

/-- A cycle that consumes no byte leaves the parser alone (R151). -/
theorem parseCycle_of_no_byte (h : consumedByte s inp = none) : parseCycle inp s n = clearFrameValid n := by
  rw [parseCycle, h]

/-- No session acts on its own. -/
theorem controller_idle (s : Regs wTmr wRetry) :
    controller .idle false s (clearFrameValid s) = clearFrameValid s := by
  unfold controller
  split
  -- `OPEN_WAIT`
  case h_3 =>
    have hbyte : consumedByte s .idle = none := by simp [consumedByte_eq_ite, Input.idle]
    rw [awaitReply_of_no_event rfl (doneEvent_of_no_byte hbyte), parseCycle_of_no_byte hbyte]
    split
    · simp [timerCycle, countTick, Input.idle, clearFrameValid]
    · rfl
  -- `CLOSING`
  case h_6 => simp [release, Input.idle]
  all_goals rfl

/-- A cycle with no event ends the `FRM_V` pulse and does nothing else (R41). -/
theorem cycle_idle (s : Regs wTmr wRetry) : cycle .idle s = { s with frmV := false } := by
  have htaken : txAccepted s .idle = false := Bool.and_false _
  rw [cycle_eq s rfl, transmit, htaken, txDone, htaken]
  exact controller_idle s

/-- What the parser and the end of the `FRM_V` pulse leave of the registers in a cycle with no Done event (R160). -/
def listened (inp : Input wTmr wRetry) (s : Regs wTmr wRetry) : Regs wTmr wRetry :=
  { s with rstate := (parseCycle inp s s).rstate, frmV := false }

theorem listened_of_no_byte (h : consumedByte s inp = none) : listened inp s = { s with frmV := false } := by
  rw [listened, parseCycle_of_no_byte h]; rfl

/-- A waiting transmitter's cycle with no event of higher priority: TX_STEP, the parser and TIMER_STEP (R190, R224). -/
theorem cycle_eq_timerCycle (hs : s.sess = .openWait) (hr : s.role = .transmitter) (hrst : inp.rst = false)
    (herr : inp.chanErr = false) (hdone : doneEvent s inp = false) :
    cycle inp s = timerCycle inp (txDone s inp) s (transmit inp s (listened inp s)) := by
  have hparse : parseCycle inp s (transmit inp s (clearFrameValid s)) = transmit inp s (listened inp s) := by
    rw [listened, transmit_eq, transmit_eq, parseCycle_eq, parseCycle_eq, hdone]; rfl
  rw [cycle_eq s hrst]
  simp only [controller, hs, awaitReply_of_no_event herr hdone, if_pos hr, hparse]

/-- Everything that such a cycle can do. A pending timer waits for the transmitter, and a running one for ticks. -/
inductive WaitStep (inp : Input wTmr wRetry) (s : Regs wTmr wRetry) : Regs wTmr wRetry → Prop where
  /-- No byte is taken. -/
  | stall (hpend : s.tmrSt = .pend) (htaken : txAccepted s inp = false) : WaitStep inp s (listened inp s)
  /-- A byte of the frame is taken that is not its last (R201). -/
  | send (hpend : s.tmrSt = .pend) (htaken : txAccepted s inp = true) (hmore : s.txi ≠ 4) :
      WaitStep inp s { listened inp s with txi := s.txi + 1 }
  /-- The last byte of the frame is taken, and the timer starts (R174). -/
  | start (hpend : s.tmrSt = .pend) (htaken : txAccepted s inp = true) (hlast : s.txi = 4) :
      WaitStep inp s { listened inp s with txb := false, txi := 0, tmrSt := .run, tmrCnt := s.timeout }
  /-- The timer runs and there is no tick. -/
  | pause (hrun : s.tmrSt = .run) (htick : inp.tick = false) : WaitStep inp s (listened inp s)
  /-- A tick is counted (R175). -/
  | count (hrun : s.tmrSt = .run) (htick : inp.tick = true) (hmore : 2 ≤ s.tmrCnt.toNat) :
      WaitStep inp s { listened inp s with tmrCnt := s.tmrCnt - 1 }
  /-- An expiry below the maximum sends SET again (R179). -/
  | resend (hrun : s.tmrSt = .run) (htick : inp.tick = true) (hlast : s.tmrCnt.toNat ≤ 1)
      (hmore : s.retryCnt.toNat + 1 < s.maxr.toNat) :
      WaitStep inp s (resendSet { listened inp s with retryCnt := nextRetry s })
  /-- The expiry that reaches the maximum ends the session (R180). -/
  | giveUp (hrun : s.tmrSt = .run) (htick : inp.tick = true) (hlast : s.tmrCnt.toNat ≤ 1)
      (hmax : s.maxr.toNat ≤ s.retryCnt.toNat + 1) :
      WaitStep inp s (exhaust s { listened inp s with retryCnt := nextRetry s })

/-- TIMER_STEP is one of these, in a transmitter whose timer is not idle and whose frame is out while it runs (INV13,
INV4). -/
theorem waitStep_timerCycle (hne : s.tmrSt ≠ .idle) (hbusy : s.tmrSt = .run → s.txb = false) :
    WaitStep inp s (timerCycle inp (txDone s inp) s (transmit inp s (listened inp s))) := by
  cases hst : s.tmrSt with
  | idle => exact absurd hst hne
  | pend =>
    have hnotick : ∀ n, countTick inp.tick s n = n := fun n => by simp [countTick, hst]
    cases htaken : txAccepted s inp with
    | false =>
      have htx : txDone s inp = false := by simp [txDone, htaken]
      simpa [timerCycle, htx, hnotick, transmit, htaken] using WaitStep.stall hst htaken
    | true =>
      by_cases hlast : s.txi = 4
      · have htx : txDone s inp = true := by simp [txDone, htaken, hlast]
        simpa [timerCycle, hst, htx, startCounting, transmit, htaken, hlast, dropFrame] using
          WaitStep.start hst htaken hlast
      · have htx : txDone s inp = false := by simp [txDone, hlast]
        simpa [timerCycle, htx, hnotick, transmit, htaken, hlast] using WaitStep.send hst htaken hlast
  | run =>
    rw [transmit_idle inp _ (hbusy hst), timerCycle, if_neg (by simp [hst])]
    unfold countTick
    split
    case isFalse htick => exact .pause hst (by simpa [hst] using htick)
    case isTrue htick =>
      split
      case isFalse hmore => exact .count hst htick.2 (by omega)
      case isTrue hlast =>
        unfold expire
        split
        case isTrue hmax => exact .giveUp hst htick.2 hlast hmax
        case isFalse hmore => exact .resend hst htick.2 hlast (by simpa [expiries] using hmore)

/-! What a cycle writes to `RETRY_CNT`. -/

theorem expire_retryCnt (s n : Regs wTmr wRetry) : (expire s n).retryCnt = nextRetry s := by
  rw [expire_eq]
  split <;> simp

theorem expire_tmrSt_ne_run (s n : Regs wTmr wRetry) : (expire s n).tmrSt ≠ .run := by
  rw [expire_eq]
  split <;> simp

/-- The timer counts an expiry or leaves the counter alone. -/
theorem timerCycle_retryCnt (txdone : Bool) :
    (timerCycle inp txdone s n).retryCnt = n.retryCnt ∨ (timerCycle inp txdone s n).retryCnt = nextRetry s := by
  unfold timerCycle
  split
  case isTrue hstart => rw [startCounting, if_pos hstart]; exact .inl rfl
  case isFalse =>
    unfold countTick
    split
    · split
      · exact .inr (expire_retryCnt s n)
      · exact .inl rfl
    · exact .inl rfl

/-- In the wait only a transmitter counts. -/
theorem awaitReply_retryCnt (txdone : Bool) :
    (awaitReply inp txdone s n).retryCnt = n.retryCnt ∨
      s.role = .transmitter ∧ (awaitReply inp txdone s n).retryCnt = nextRetry s := by
  have hparse : (parseCycle inp s n).retryCnt = n.retryCnt := by rw [parseCycle_eq]
  unfold awaitReply
  split
  · exact .inl (errorEntry_retryCnt ..)
  · dsimp only
    split
    · split <;> exact .inl hparse
    · split
      next hr => exact hparse ▸ (timerCycle_retryCnt txdone).imp_right fun h => ⟨hr, h⟩
      next => exact .inl hparse

/-- Short of an accepted OPEN, the controller writes `RETRY_CNT` in a transmitter's wait only. -/
theorem controller_retryCnt (hopen : ¬ (s.sess = .closed ∧ command inp = .opn)) (txdone : Bool) :
    (controller inp txdone s n).retryCnt = n.retryCnt ∨
      s.sess = .openWait ∧ s.role = .transmitter ∧ (controller inp txdone s n).retryCnt = nextRetry s := by
  unfold controller
  split
  next hs => rw [if_neg fun hc => hopen ⟨hs, hc⟩]; exact .inl rfl
  next => left; unfold channelOpen; (repeat' split) <;> rfl
  next hs => exact (awaitReply_retryCnt txdone).imp_right fun h => ⟨hs, h⟩
  next => left; unfold sendingUA; split_ifs <;> simp
  next => left; unfold linkOpen; split_ifs <;> simp
  next => left; unfold release; split_ifs <;> simp

/-- A cycle without reset and without an accepted OPEN keeps `RETRY_CNT`, or counts the expiry of a waiting
transmitter. -/
theorem cycle_retryCnt (hrst : inp.rst = false) (hopen : ¬ (s.sess = .closed ∧ command inp = .opn)) :
    (cycle inp s).retryCnt = s.retryCnt ∨
      s.sess = .openWait ∧ s.role = .transmitter ∧ (cycle inp s).retryCnt = nextRetry s := by
  have hkeep : (transmit inp s (clearFrameValid s)).retryCnt = s.retryCnt := by rw [transmit_eq]; rfl
  rw [cycle_eq s hrst]
  exact hkeep ▸ controller_retryCnt hopen _

end Sys2Proof.Machine
end

section
/-! A transmitter that awaits UA (R187): what it still has to send before it gives up, and how long that takes with a
ready channel and a tick every cycle (R189). -/

namespace Sys2Proof.Machine

open Sys2Proof.Laws

variable {s r : Regs} {inp : Input}

/-- A transmitter in `OPEN_WAIT`. Its timer is pending only while its frame is being sent. -/
structure Regs.AwaitsUA (s : Regs) : Prop where
  inv : s.Inv
  sess : s.sess = .openWait
  role : s.role = .transmitter
  sending : s.tmrSt = .pend → s.txb = true

/-- The number of SET frames that a session sends at most, `max(MAXR, 1)` (R181). -/
def Regs.attempts (s : Regs) : Nat := max s.maxr.toNat 1

/-- The session has failed with ConnectionTimeout (R180). -/
structure Regs.GaveUp (s : Regs) : Prop where
  sess : s.sess = .closing
  tmrSt : s.tmrSt = .idle
  txb : s.txb = false
  err : s.err = .connectionTimeout
  stAbort : s.stAbort = true
  retryCnt : s.retryCnt.toNat = s.attempts

/-- The awaited UA has been validated, and the channel is not yet released. -/
structure Regs.Answered (s : Regs) : Prop where
  sess : s.sess = .opened ∨ s.sess = .closing
  stDone : s.stDone = true

/-- A cycle without reset, without a channel error and without the channel's release, each of which can end a session
whatever else happens. -/
def KeepsSession (inp : Input) : Prop := inp.rst = false ∧ inp.chanErr = false ∧ inp.chanCloseAck = false

/-- The SET frames that are still to follow the one being sent or waited for. -/
def Regs.framesLeft (s : Regs) : Nat := s.attempts - (s.retryCnt.toNat + 1)

/-- The bytes that a waiting transmitter still sends if no answer comes. -/
def Regs.bytesLeft (s : Regs) : List Byte :=
  (if s.tmrSt = .pend then (frameBytes setFrame).drop s.txi else []) ++
    (List.replicate s.framesLeft (frameBytes setFrame)).flatten

/-- The ticks of one timeout (R176). -/
def Regs.ticks (s : Regs) : Nat := max s.timeout.toNat 1

/-- The cycles that a waiting transmitter still waits if no answer comes, with a ready channel and a tick in each. -/
def Regs.cyclesLeft (s : Regs) : Nat :=
  (match s.tmrSt with
    | .idle => 0
    | .pend => 5 - s.txi + s.ticks
    | .run => max s.tmrCnt.toNat 1) + s.framesLeft * (5 + s.ticks)

/-! A cycle of the wait. -/

theorem Regs.AwaitsUA.retryCnt_lt (h : s.AwaitsUA) : s.retryCnt.toNat < s.attempts := h.inv.inv5 h.sess h.role

/-- The count of an expiry fits, because it is at most `max(MAXR, 1)` (R186). -/
theorem Regs.AwaitsUA.toNat_nextRetry (h : s.AwaitsUA) : (nextRetry s).toNat = s.retryCnt.toNat + 1 :=
  toNat_nextRetry_of_lt h.retryCnt_lt

theorem Regs.AwaitsUA.txf (h : s.AwaitsUA) (hpend : s.tmrSt = .pend) : s.txf = setFrame :=
  (h.inv.sender (h.sending hpend)).trans (if_pos h.role)

/-- The cycle with no event of higher priority. -/
theorem Regs.AwaitsUA.waitStep (h : s.AwaitsUA) (hrst : inp.rst = false) (herr : inp.chanErr = false)
    (hdone : doneEvent s inp = false) : WaitStep inp s (cycle inp s) := by
  rw [cycle_eq_timerCycle h.sess h.role hrst herr hdone]
  exact waitStep_timerCycle (h.inv.inv13 h.sess h.role).1 fun hrun => (h.inv.inv4 hrun).1

/-- The wait goes on, or it is given up. -/
theorem WaitStep.awaitsUA_or_gaveUp (hstep : WaitStep inp s r) (h : s.AwaitsUA) (hr : r.Inv) :
    r.AwaitsUA ∨ r.GaveUp := by
  cases hstep with
  | stall | send | pause | count => exact .inl ⟨hr, h.sess, h.role, h.sending⟩
  | start => exact .inl ⟨hr, h.sess, h.role, nofun⟩
  | resend => exact .inl ⟨hr, h.sess, h.role, fun _ => rfl⟩
  | giveUp hrun htick hlast hmax =>
    have hnone : s.err = .none := h.inv.inv6 (by simp [h.sess]) (by simp [h.sess])
    have hcount : (nextRetry s).toNat = s.attempts := by
      rw [h.toNat_nextRetry]
      have hlt := h.retryCnt_lt
      simp only [Regs.attempts] at *
      omega
    exact .inr ⟨by simp [exhaust], by simp [exhaust], by simp [exhaust], by simp [exhaust, hnone], by simp [exhaust],
      by simpa [exhaust, Regs.attempts, listened] using hcount⟩

/-- No operation of the wait writes `MAXR`. -/
theorem WaitStep.attempts_eq (hstep : WaitStep inp s r) : r.attempts = s.attempts := by
  cases hstep <;> simp [Regs.attempts, listened, exhaust]

/-- An expiry below the maximum leaves one frame less to follow. -/
theorem Regs.AwaitsUA.framesLeft_resendSet (h : s.AwaitsUA) (hmore : s.retryCnt.toNat + 1 < s.maxr.toNat) :
    s.framesLeft = (resendSet { listened inp s with retryCnt := nextRetry s }).framesLeft + 1 := by
  simp only [Regs.framesLeft, Regs.attempts, resendSet_maxr, resendSet_retryCnt, listened, h.toNat_nextRetry]
  omega

theorem Regs.framesLeft_of_max (hmax : s.maxr.toNat ≤ s.retryCnt.toNat + 1) : s.framesLeft = 0 := by
  rw [Regs.framesLeft, Regs.attempts]
  omega

theorem Regs.GaveUp.framesLeft (h : s.GaveUp) : s.framesLeft = 0 := by
  rw [Regs.framesLeft, h.retryCnt]
  omega

theorem Regs.GaveUp.bytesLeft (h : s.GaveUp) : s.bytesLeft = [] := by
  simp [Regs.bytesLeft, h.framesLeft, h.tmrSt]

theorem Regs.GaveUp.cyclesLeft (h : s.GaveUp) : s.cyclesLeft = 0 := by
  simp [Regs.cyclesLeft, h.framesLeft, h.tmrSt]

/-- The byte of a frame that is offered, and those after it. -/
theorem drop_frameBytes (f : Frame) (i : Fin 5) :
    (frameBytes f).drop i = frameByte f i :: (frameBytes f).drop (i + 1) := by
  fin_cases i <;> rfl

/-- What the channel takes in a cycle is no longer left to send. -/
theorem WaitStep.bytesLeft_eq (hstep : WaitStep inp s r) (h : s.AwaitsUA) (hend : r.AwaitsUA ∨ r.GaveUp) :
    s.bytesLeft = (takenByte s inp).toList ++ r.bytesLeft := by
  have hquiet (hrun : s.tmrSt = .run) : takenByte s inp = none := by
    simp [takenByte, txAccepted, (h.inv.inv4 hrun).1]
  have htakes (hpend : s.tmrSt = .pend) (htaken : txAccepted s inp = true) :
      s.bytesLeft = (takenByte s inp).toList ++ ((frameBytes setFrame).drop (s.txi + 1) ++
        (List.replicate s.framesLeft (frameBytes setFrame)).flatten) := by
    rw [Regs.bytesLeft, if_pos hpend, drop_frameBytes, takenByte, if_pos htaken, h.txf hpend]
    rfl
  cases hstep with
  | stall hpend htaken => rw [takenByte, htaken]; rfl
  | send hpend htaken hmore =>
    have hnext : (s.txi + 1).val = s.txi.val + 1 := Fin.val_add_one_of_lt' (by omega)
    rw [htakes hpend htaken, ← hnext, Regs.bytesLeft, if_pos (by exact hpend)]
    rfl
  | start hpend htaken hlast => rw [htakes hpend htaken, hlast]; rfl
  | pause hrun | count hrun => rw [hquiet hrun]; rfl
  | resend hrun htick hlast hmore =>
    have hframes := h.framesLeft_resendSet (inp := inp) hmore
    rw [hquiet hrun, Regs.bytesLeft, Regs.bytesLeft, hframes, List.replicate_succ, hrun]
    rfl
  | giveUp hrun htick hlast hmax =>
    have hs : s.bytesLeft = [] := by simp [Regs.bytesLeft, Regs.framesLeft_of_max hmax, hrun]
    have hr : _ = [] := (hend.resolve_left fun hr => by simpa [exhaust] using hr.sess).bytesLeft
    rw [hquiet hrun, hs, hr]; rfl

theorem Regs.cyclesLeft_of_pend (h : s.tmrSt = .pend) :
    s.cyclesLeft = 5 - s.txi.val + s.ticks + s.framesLeft * (5 + s.ticks) := by rw [Regs.cyclesLeft, h]

theorem Regs.cyclesLeft_of_run (h : s.tmrSt = .run) :
    s.cyclesLeft = max s.tmrCnt.toNat 1 + s.framesLeft * (5 + s.ticks) := by rw [Regs.cyclesLeft, h]

/-- Without an answer, with a ready channel and a tick, one of the cycles left is over. -/
theorem WaitStep.cyclesLeft_eq (hstep : WaitStep inp s r) (h : s.AwaitsUA) (hend : r.AwaitsUA ∨ r.GaveUp)
    (hready : inp.txReady = true) (htick : inp.tick = true) : s.cyclesLeft = r.cyclesLeft + 1 := by
  cases hstep with
  | stall hpend htaken => simp [txAccepted, h.sending hpend, hready] at htaken
  | send hpend htaken hmore =>
    have hnext : (s.txi + 1).val = s.txi.val + 1 := Fin.val_add_one_of_lt' (by omega)
    rw [Regs.cyclesLeft_of_pend hpend, Regs.cyclesLeft_of_pend (by exact hpend)]
    change _ = 5 - (s.txi + 1).val + s.ticks + s.framesLeft * (5 + s.ticks) + 1
    omega
  | start hpend htaken hlast =>
    rw [Regs.cyclesLeft_of_pend hpend, hlast, Regs.cyclesLeft_of_run (by rfl)]
    change 5 - 4 + s.ticks + _ = s.ticks + s.framesLeft * (5 + s.ticks) + 1
    omega
  | pause hrun hno => simp [htick] at hno
  | count hrun htick hmore =>
    have hdown := toNat_sub_one (c := s.tmrCnt) (by omega)
    rw [Regs.cyclesLeft_of_run hrun, Regs.cyclesLeft_of_run (by exact hrun)]
    change _ = max (s.tmrCnt - 1).toNat 1 + s.framesLeft * (5 + s.ticks) + 1
    omega
  | resend hrun htick hlast hmore =>
    have hframes := h.framesLeft_resendSet (inp := inp) hmore
    rw [Regs.cyclesLeft_of_run hrun, Regs.cyclesLeft_of_pend (by rfl), hframes, Nat.succ_mul]
    change _ = 5 - 0 + s.ticks + _ * (5 + s.ticks) + 1
    omega
  | giveUp hrun htick hlast hmax =>
    have hr : _ = 0 := (hend.resolve_left fun hr => by simpa [exhaust] using hr.sess).cyclesLeft
    rw [Regs.cyclesLeft_of_run hrun, Regs.framesLeft_of_max hmax, hr]
    omega

/-! The end of the wait. -/

/-- A valid UA opens the link (R226). -/
theorem Regs.AwaitsUA.answered_of_doneEvent (h : s.AwaitsUA) (hrst : inp.rst = false) (herr : inp.chanErr = false)
    (hdone : doneEvent s inp = true) : (cycle inp s).Answered where
  sess := by
    rw [cycle_eq s hrst]
    simp [controller, h.sess, awaitReply, herr, hdone, h.role]
  stDone := by
    rw [(sameRecord_cycle hrst fun hc => by simp [h.sess] at hc).stDone, recorded, hdone, Bool.or_true]

/-- In `CLOSING` such a cycle leaves the rest to the transmitter (R229). -/
theorem controller_of_closing (hs : s.sess = .closing) (hi : KeepsSession inp) (txdone : Bool) (n : Regs) :
    controller inp txdone s n = n := by
  obtain ⟨-, herr, hack⟩ := hi
  simp [controller, hs, release, herr, hack]

/-- The link stays open or goes to `CLOSING` (R228), and only an accepted OPEN clears `ST_DONE` (R44). -/
theorem Regs.Answered.after_cycle (h : s.Answered) (hi : KeepsSession inp) : (cycle inp s).Answered where
  sess := by
    have hkeep : (transmit inp s (clearFrameValid s)).sess = s.sess := sameLink_transmit.sess
    rw [cycle_eq s hi.1]
    rcases h.sess with hs | hs
    · by_cases hc : command inp = .close <;> simp [controller, hs, linkOpen, hi.2.1, hc, hkeep]
    · rw [controller_of_closing hs hi, hkeep]
      exact .inr hs
  stDone := by
    have hopen : ¬ (s.sess = .closed ∧ command inp = .opn) := by rcases h.sess with hs | hs <;> simp [hs]
    rw [(sameRecord_cycle hi.1 hopen).stDone, recorded, h.stDone, Bool.true_or]

theorem Regs.Answered.after_runCycles (h : s.Answered) {ins : List Input} (hins : ∀ i ∈ ins, KeepsSession i) :
    (runCycles ins s).Answered := by
  induction ins generalizing s with
  | nil => exact h
  | cons inp ins ih =>
    rw [List.forall_mem_cons] at hins
    exact ih (h.after_cycle hins.1) hins.2

/-- After the failure the session only waits for the channel's release (R229). -/
theorem Regs.GaveUp.cycle_eq (h : s.GaveUp) (hi : KeepsSession inp) : cycle inp s = { s with frmV := false } := by
  rw [Laws.cycle_eq s hi.1, controller_of_closing h.sess hi, transmit_idle inp _ h.txb]
  rfl

/-- So a failed session stays failed and sends nothing more. -/
theorem Regs.GaveUp.after_runCycles (h : s.GaveUp) {ins : List Input} (hins : ∀ i ∈ ins, KeepsSession i) :
    (runCycles ins s).GaveUp ∧ (runCycles ins s).attempts = s.attempts ∧ takenBytes ins s = [] := by
  induction ins generalizing s with
  | nil => exact ⟨h, rfl, rfl⟩
  | cons inp ins ih =>
    rw [List.forall_mem_cons] at hins
    have hnext : (cycle inp s).GaveUp := by rw [h.cycle_eq hins.1]; exact { h with }
    obtain ⟨hend, hmax, hbytes⟩ := ih hnext hins.2
    refine ⟨hend, by rw [runCycles_cons, hmax, h.cycle_eq hins.1]; rfl, ?_⟩
    rw [takenBytes, hbytes, takenByte, txAccepted, h.txb]
    rfl

/-! Runs. -/

/-- A wait that ends in `CLOSING` without an answer was given up, with nothing left to send (R187). -/
theorem Regs.AwaitsUA.gaveUp_of_closing (h : s.AwaitsUA) {ins : List Input} (hins : ∀ i ∈ ins, KeepsSession i)
    (hs : (runCycles ins s).sess = .closing) (hdone : (runCycles ins s).stDone = false) :
    (runCycles ins s).GaveUp ∧ (runCycles ins s).attempts = s.attempts ∧ takenBytes ins s = s.bytesLeft := by
  induction ins generalizing s with
  | nil => simp [runCycles_nil, h.sess] at hs
  | cons inp ins ih =>
    rw [List.forall_mem_cons] at hins
    obtain ⟨⟨hrst, herr, -⟩, hrest⟩ := hins
    rw [runCycles_cons] at hs hdone ⊢
    cases hev : doneEvent s inp with
    | true =>
      have hanswered := (h.answered_of_doneEvent hrst herr hev).after_runCycles hrest
      simp [hanswered.stDone] at hdone
    | false =>
      have hstep := h.waitStep hrst herr hev
      have hend := hstep.awaitsUA_or_gaveUp h (h.inv.after_cycle inp)
      rw [takenBytes, hstep.bytesLeft_eq h hend, ← hstep.attempts_eq]
      rcases hend with hwait | hgave
      · obtain ⟨hgave, hmax, hbytes⟩ := ih hwait hrest hs hdone
        exact ⟨hgave, hmax, by rw [hbytes]⟩
      · obtain ⟨hgave', hmax, hbytes⟩ := hgave.after_runCycles hrest
        exact ⟨hgave', hmax, by rw [hbytes, hgave.bytesLeft]⟩

/-- A silent line: the channel is ready and a tick comes in every cycle, and nothing is received. -/
def silence : Input := { (Input.onlyTick : Input) with txReady := true }

theorem doneEvent_silence (s : Regs) : doneEvent s silence = false :=
  doneEvent_of_no_byte (by simp [consumedByte_eq_ite, silence, Input.onlyTick, Input.idle])

/-- A silent cycle of the wait. -/
theorem Regs.AwaitsUA.cycle_silence (h : s.AwaitsUA) :
    ((cycle silence s).AwaitsUA ∨ (cycle silence s).GaveUp) ∧ (cycle silence s).attempts = s.attempts ∧
      s.cyclesLeft = (cycle silence s).cyclesLeft + 1 := by
  have hstep := h.waitStep (inp := silence) rfl rfl (doneEvent_silence s)
  have hend := hstep.awaitsUA_or_gaveUp h (h.inv.after_cycle silence)
  exact ⟨hend, hstep.attempts_eq, hstep.cyclesLeft_eq h hend rfl rfl⟩

/-- On a silent line a waiting transmitter waits for its cycles left, and then gives up (R189). -/
theorem Regs.AwaitsUA.runCycles_silence (h : s.AwaitsUA) :
    (∀ k < s.cyclesLeft, (runCycles (List.replicate k silence) s).sess = .openWait) ∧
      (runCycles (List.replicate s.cyclesLeft silence) s).GaveUp ∧
      (runCycles (List.replicate s.cyclesLeft silence) s).attempts = s.attempts := by
  induction hn : s.cyclesLeft generalizing s with
  | zero =>
    have hleft := h.cycle_silence.2.2
    omega
  | succ n ih =>
    obtain ⟨hend, hmax, hleft⟩ := h.cycle_silence
    have hrest : (cycle silence s).cyclesLeft = n := by omega
    rcases hend with hwait | hgave
    · obtain ⟨hopen, hgave, hsame⟩ := ih hwait hrest
      exact ⟨Nat.forall_lt_succ_left.2 ⟨h.sess, hopen⟩, hgave, hsame.trans hmax⟩
    · obtain rfl : n = 0 := hrest ▸ hgave.cyclesLeft
      exact ⟨Nat.forall_lt_succ_left.2 ⟨h.sess, nofun⟩, hgave, hmax⟩

end Sys2Proof.Machine
end

section
/-! The obligations of spec/42_timer.md. -/

namespace Sys2Proof.Machine

open Sys2Proof.Laws Sys2Proof.Claims

/-! The operations in the words of the claims. -/

/-- An event of higher priority (R188). -/
theorem preempted_iff_higher {inp : Input} {r : Regs} : preempted inp r = true ↔ higher inp r := by
  rw [preempted_iff, doneEvent_iff_confirms, ← Bool.not_eq_true]
  tauto

/-- TX_STEP (R201), after which `FRM_V` is what it was before. -/
theorem transmit_eq_moved (inp : Input) (r : Regs) : transmit inp r r = { moved inp r with frmV := r.frmV } := by
  rw [transmit_eq, moved]
  simp only [txDone_iff, txAccepted, Bool.and_eq_true]

/-- An expiry (R178 to R181). A count below `MAXR` fits (R186). -/
theorem expire_eq_expired (r q : Regs) : expire r q = expired r q := by
  rw [expire_eq, expired]
  split
  case isTrue => exact errorEntry_eq _ _ _
  case isFalse hmore =>
    have hfits : expiries r < 2 ^ Config.wRetry := by have := r.maxr.isLt; rw [expiries]; omega
    rw [nextRetry, if_pos hfits]
    rfl

/-- TIMER_TICK (R175). -/
theorem countTick_eq_expired (tick : Bool) (r q : Regs) :
    countTick tick r q = if r.tmrSt = .run ∧ tick = true then
      if r.tmrCnt.toNat ≤ 1 then expired r q else { q with tmrCnt := r.tmrCnt - 1 }
    else q := by
  rw [countTick, expire_eq_expired]

/-! The timer's operations. -/

/-- Settles O21: each operation is its pseudo-code. -/
theorem armDisarmLoadAndAccept : Obligations.ArmDisarmLoadAndAccept :=
  fun _ _ => ⟨rfl, rfl, rfl, rfl, rfl, rfl⟩

/-- Settles O25: `expire` in the words of R178 to R181. -/
theorem expiryResendsOrExhausts : Obligations.ExpiryResendsOrExhausts := fun s =>
  congrArg s.goesOn (expire_eq_expired s.regs s.regs)

/-- Settles O23: below the priority of R188, TIMER_TICK is `countTick`. -/
theorem tickCountsDownOrExpires : Obligations.TickCountsDownOrExpires := by
  intro s inp
  have hexec : exec (.timerTick inp) s = s.goesOn
      (if preempted inp s.regs then s.regs else countTick inp.tick s.regs s.regs) := rfl
  rw [hexec, countTick_eq_expired]
  refine ⟨fun hrun htick hfree hmore => ?_, fun hrun htick hfree hlast => ?_, fun hkeep => congrArg s.goesOn ?_⟩
  · rw [if_neg (mt preempted_iff_higher.1 hfree), if_pos ⟨hrun, htick⟩, if_neg (by omega)]
  · rw [if_neg (mt preempted_iff_higher.1 hfree), if_pos ⟨hrun, htick⟩, if_pos hlast]
  · by_cases hhigh : higher inp s.regs
    · exact if_pos (preempted_iff_higher.2 hhigh)
    · have hno : ¬ (s.regs.tmrSt = .run ∧ inp.tick = true) := by simp_all [or_iff_not_imp_left]
      rw [if_neg (mt preempted_iff_higher.1 hhigh), if_neg hno]

/-- Settles O30: TIMER_STEP starts the timer or counts the tick, and TX_STEP is `transmit`. -/
theorem timerStepAndTxStep : Obligations.TimerStepAndTxStep := by
  intro s inp done
  refine ⟨congrArg s.goesOn ?_, ?_⟩
  · show timerCycle inp done s.regs s.regs = _
    rw [timerCycle, countTick_eq_expired]
    split
    case isTrue hstart => rw [startCounting, if_pos hstart]
    case isFalse => rfl
  · have hresult : txDone s.regs inp = decide (lastTaken inp s.regs) := Bool.eq_iff_iff.2 (by simp [txDone_iff])
    show Host.Outcome.next { s with regs := transmit inp s.regs s.regs, result := .bool (txDone s.regs inp) } = _
    rw [transmit_eq_moved, hresult]

/-- Settles O22: below the priority of R188, START_COUNT is `startCounting`, which in a cycle comes before the tick. -/
theorem countingStartsWhenTheFrameIsTaken : Obligations.CountingStartsWhenTheFrameIsTaken := by
  refine ⟨fun s inp => congrArg s.goesOn ?_, fun r inp hs hr hpend hrst herr hconf hlast => ?_⟩
  · show (if preempted inp s.regs then s.regs else startCounting (txDone s.regs inp) s.regs s.regs) = _
    by_cases hhigh : higher inp s.regs
    · rw [if_pos (preempted_iff_higher.2 hhigh), if_neg fun h => h.2.2 hhigh]
    · rw [if_neg (mt preempted_iff_higher.1 hhigh), startCounting]
      exact if_congr (and_congr_right fun _ => txDone_iff.trans (and_iff_left hhigh).symm) rfl rfl
  · have hdone : doneEvent r inp = false := Bool.eq_false_iff.2 fun h => hconf (doneEvent_iff_confirms.1 h).2.2
    have htx : txDone r inp = true := txDone_iff.2 hlast
    have hstart : r.tmrSt = .pend ∧ txDone r inp = true := ⟨hpend, htx⟩
    rw [cycle_eq_timerCycle hs hr hrst herr hdone, timerCycle, if_pos hstart, startCounting, if_pos hstart]
    exact ⟨rfl, rfl⟩

/-! The tick in a cycle. -/

/-- Settles O24: nothing else reads `tick`. -/
theorem tickIsIgnoredUnlessRunning : Obligations.TickIsIgnoredUnlessRunning := fun _ _ t h =>
  cycle_tick_eq (.inr (.inr h)) t

/-- Settles O27: without an accepted OPEN a cycle keeps the record but for the parser, the Done event and `ST_ABORT`;
reset and an accepted OPEN do not read `tick`. -/
theorem expiryNeverTouchesTheParser : Obligations.ExpiryNeverTouchesTheParser := by
  intro inp r n m
  cases hrst : inp.rst with
  | true =>
    have hn : n = Regs.reset := cycle_rst r hrst
    have hm : m = Regs.reset := cycle_rst r hrst
    simp [hn, hm]
  | false =>
    by_cases hopen : r.sess = .closed ∧ command inp = .opn
    · have hn : n = openAccept inp (transmit inp r (clearFrameValid r)) :=
        cycle_openAccept (inp := { inp with tick := true }) hrst hopen.1 hopen.2
      have hm : m = openAccept inp (transmit inp r (clearFrameValid r)) :=
        cycle_openAccept (inp := { inp with tick := false }) hrst hopen.1 hopen.2
      simp [hn, hm]
    · have hn := sameRecord_cycle (inp := { inp with tick := true }) hrst hopen
      have hm := sameRecord_cycle (inp := { inp with tick := false }) hrst hopen
      exact ⟨hn.rstate.trans hm.rstate.symm, hn.expA.trans hm.expA.symm, hn.expC.trans hm.expC.symm,
        hn.frmV.trans hm.frmV.symm, hn.stDone.trans hm.stDone.symm, hn.role.trans hm.role.symm,
        hn.timeout.trans hm.timeout.symm, hn.maxr.trans hm.maxr.symm⟩

/-- A tick alone, at a transmitter that waits with a running timer. -/
theorem cycle_onlyTick_of_run {r : Regs} (hs : r.sess = .openWait) (hr : r.role = .transmitter)
    (hrun : r.tmrSt = .run) :
    cycle .onlyTick r = if 2 ≤ r.tmrCnt.toNat then { r with frmV := false, tmrCnt := r.tmrCnt - 1 }
      else expired r { r with frmV := false } := by
  have hbyte : consumedByte r .onlyTick = none := by simp [consumedByte_eq_ite, Input.onlyTick, Input.idle]
  have htaken : txAccepted r .onlyTick = false := Bool.and_false _
  have hnostart : ¬ (r.tmrSt = .pend ∧ txDone r .onlyTick = true) := by simp [hrun]
  rw [cycle_eq_timerCycle hs hr rfl rfl (doneEvent_of_no_byte hbyte), timerCycle, if_neg hnostart, transmit, htaken,
    if_neg (by decide), listened_of_no_byte hbyte, countTick_eq_expired, if_pos ⟨hrun, rfl⟩]
  by_cases hmore : 2 ≤ r.tmrCnt.toNat
  · rw [if_neg (by omega), if_pos hmore]
  · rw [if_pos (by omega), if_neg hmore]

/-- Settles O28: where the tick is not read the cycle is one with no event. -/
theorem tickEvent : Obligations.TickEvent := by
  intro s
  have hexec : exec .tick s = s.goesOn (cycle .onlyTick s.regs) :=
    (exec_of_input? rfl s).trans (runCycle_ordinary rfl s)
  rw [hexec]
  split
  case isTrue h => rw [cycle_onlyTick_of_run h.1 h.2.1 h.2.2]
  case isFalse h =>
    have hidle : cycle .onlyTick s.regs = cycle .idle s.regs :=
      cycle_tick_eq (inp := .idle) (by tauto) true
    rw [hidle, cycle_idle]

/-- A running timer counts down, one by one, as long as more than one tick is left (R175). -/
theorem runCycles_onlyTick_of_run {r : Regs} (hs : r.sess = .openWait) (hr : r.role = .transmitter)
    (hrun : r.tmrSt = .run) {k : Nat} (hk : k < max r.tmrCnt.toNat 1) :
    ∃ (v : Bool) (c : Ticks), runCycles (List.replicate k .onlyTick) r = { r with frmV := v, tmrCnt := c } ∧
      c.toNat = r.tmrCnt.toNat - k := by
  induction k generalizing r with
  | zero => exact ⟨r.frmV, r.tmrCnt, rfl, rfl⟩
  | succ k ih =>
    have hdown : (r.tmrCnt - 1).toNat = r.tmrCnt.toNat - 1 := toNat_sub_one (by omega)
    rw [List.replicate_succ, runCycles_cons, cycle_onlyTick_of_run hs hr hrun, if_pos (by omega)]
    have hk' : k < max (r.tmrCnt - 1).toNat 1 := by omega
    obtain ⟨v, c, hrest, hc⟩ := ih (r := { r with frmV := false, tmrCnt := r.tmrCnt - 1 }) hs hr hrun hk'
    exact ⟨v, c, hrest, by rw [hc, hdown, Nat.sub_sub, Nat.add_comm]⟩

/-- Settles O29: the last of the ticks is the expiry, whose count fits by INV5. -/
theorem timerCountsMaxTimeoutOneTicks : Obligations.TimerCountsMaxTimeoutOneTicks := by
  intro r hs hr hrun hfull hbelow
  have hcounts (k : Nat) (hk : k < max r.timeout.toNat 1) :=
    runCycles_onlyTick_of_run hs hr hrun (k := k) (hfull ▸ hk)
  obtain ⟨k, hk⟩ : ∃ k, max r.timeout.toNat 1 = k + 1 := ⟨_, (Nat.sub_add_cancel (le_max_right _ 1)).symm⟩
  obtain ⟨v, c, hlast, hc⟩ := hcounts k (by omega)
  rw [hfull] at hc
  have hexpire : runCycles (List.replicate (k + 1) .onlyTick) r =
      expire { r with frmV := v, tmrCnt := c } { r with frmV := false, tmrCnt := c } := by
    rw [List.replicate_succ', runCycles_append, hlast, expire_eq_expired]
    have hdue : ¬ 2 ≤ c.toNat := by omega
    exact (cycle_onlyTick_of_run (r := { r with frmV := v, tmrCnt := c }) hs hr hrun).trans (if_neg hdue)
  refine ⟨fun j hj => ?_, ?_⟩
  · obtain ⟨v, c, hj, -⟩ := hcounts j hj
    rw [hj]
    exact ⟨hrun, rfl⟩
  · rw [hk, hexpire]
    exact ⟨expire_tmrSt_ne_run _ _, by rw [expire_retryCnt]; exact toNat_nextRetry_of_lt hbelow⟩

/-- Settles O51: a cycle either keeps the counter or expires, and an expiry counts by one, which fits by INV5; the
bound on `TMR_CNT` is INV4 after the cycle. -/
theorem countersNeverWrap : Obligations.CountersNeverWrap := by
  intro inp r hinv
  rw [presents_opn_iff]
  by_cases hclear : inp.rst = true ∨ (r.sess = .closed ∧ command inp = .opn)
  · refine .inl ⟨hclear, ?_⟩
    cases hrst : inp.rst with
    | true => rw [cycle_rst r hrst]; rfl
    | false =>
      obtain ⟨hs, hc⟩ := hclear.resolve_left (by simp [hrst])
      rw [cycle_openAccept hrst hs hc]; rfl
  · refine .inr ⟨hclear, ?_, fun hrun => ((hinv.after_cycle inp).inv4 hrun).2⟩
    obtain ⟨hrst, hopen⟩ := not_or.1 hclear
    rcases cycle_retryCnt (by simpa using hrst) hopen with hsame | ⟨hs, hr, hnext⟩
    · exact .inl hsame
    · have hbelow : r.retryCnt.toNat < max r.maxr.toNat 1 := hinv.inv5 hs hr
      have hcount : (cycle inp r).retryCnt.toNat = r.retryCnt.toNat + 1 := by rw [hnext, toNat_nextRetry_of_lt hbelow]
      exact .inr ⟨hcount, by omega⟩

/-! The retry law. -/

/-- A transmitter whose channel has just opened awaits UA (R222). -/
theorem awaitsUA_freshTransmitter (timeout : Ticks) (maxRetry : Retries) :
    (freshTransmitter timeout maxRetry).AwaitsUA :=
  ⟨inv_reset.after_runCycles _, rfl, rfl, fun _ => rfl⟩

/-- Settles O57: the wait was given up with nothing left to send, and at its start `max(MAXR, 1)` frames were left. -/
theorem exactlyMaxRetrySetsAreSent : Obligations.ExactlyMaxRetrySetsAreSent := by
  intro timeout maxRetry ins hins r0 r hs hdone
  have hwait : r0.AwaitsUA := awaitsUA_freshTransmitter timeout maxRetry
  obtain ⟨hgave, hmax, hbytes⟩ := hwait.gaveUp_of_closing hins hs hdone
  have hleft : r0.bytesLeft = (List.replicate r0.attempts (frameBytes setFrame)).flatten := by
    have hall : r0.attempts = r0.framesLeft + 1 := (Nat.sub_add_cancel (le_max_right _ 1)).symm
    rw [hall, List.replicate_succ]
    rfl
  exact ⟨hgave.err, hgave.stAbort, hgave.retryCnt.trans hmax, hbytes.trans hleft⟩

/-- Settles O58: a fresh transmitter's cycles left are one timeout for each of its frames. -/
theorem retransmissionEndsOnTime : Obligations.RetransmissionEndsOnTime := by
  intro timeout maxRetry busy total run
  have hwait := awaitsUA_freshTransmitter timeout maxRetry
  have htotal : (freshTransmitter timeout maxRetry).cyclesLeft = total := by
    have hall : max maxRetry.toNat 1 = (freshTransmitter timeout maxRetry).framesLeft + 1 :=
      (Nat.sub_add_cancel (le_max_right _ 1)).symm
    rw [Regs.cyclesLeft_of_pend rfl]
    simp only [total, hall, Nat.succ_mul]
    exact Nat.add_comm _ _
  obtain ⟨hopen, hgave, hmax⟩ := hwait.runCycles_silence
  rw [htotal] at hopen hgave hmax
  exact ⟨hopen, hgave.sess, hgave.err, hgave.retryCnt.trans hmax⟩

end Sys2Proof.Machine
end

section
/-! One rule per link state (R220): what a cycle without reset leaves of the registers, in the words of the claims. -/

namespace Sys2Proof.Machine

open Sys2Proof.Laws Sys2Proof.Claims

variable {inp : Input} {r q : Regs}

/-! The parts of a cycle. -/

/-- The CLOSE command is the code 010 with `cmd_valid` (R100). -/
theorem presents_close_iff : presents inp 2 ↔ command inp = .close := by
  have hcode : ∀ op : BitVec 3, commandOfCode op = .close ↔ op = 2 := by decide
  cases hv : inp.cmdValid <;> simp [presents, command, hv, hcode]

theorem isReserved_command_iff : isReserved (command inp) = true ↔ reserved inp := by
  have hcode : ∀ op : BitVec 3, isReserved (commandOfCode op) = true ↔ 3 ≤ op.toNat := by decide
  cases hv : inp.cmdValid with
  | true => simp [reserved, command, hv, hcode]
  | false => simp [reserved, command, hv, isReserved]

/-- STEP goes on with the cycle, unless its command is reserved (R233, R235). -/
theorem exec_step (h : ¬ reserved inp) (s : State) : exec (.step inp) s = s.goesOn (cycle inp s.regs) :=
  runCycle_ordinary (Bool.eq_false_iff.2 (mt isReserved_command_iff.1 h)) s

/-- A command other than the reserved ones, or an event, goes on with its cycle. -/
theorem exec_input?_eq_goesOn {i : Instr} (hi : i.input? = some inp) (hc : isReserved (command inp) = false) {s : State}
    (h : cycle inp s.regs = r) : exec i s = s.goesOn r :=
  h ▸ (exec_of_input? hi s).trans (runCycle_ordinary hc s)

/-- What every cycle does before the controller acts (R201, R235). -/
theorem transmit_clearFrameValid (inp : Input) (r : Regs) : transmit inp r (clearFrameValid r) = moved inp r := by
  rw [transmit_eq, moved]
  simp only [txDone_iff, txAccepted, Bool.and_eq_true]
  rfl

theorem cycle_eq_controller (hrst : inp.rst = false) :
    cycle inp r = controller inp (txDone r inp) r (moved inp r) := by
  rw [cycle_eq r hrst, transmit_clearFrameValid]

/-- The channel takes no byte: TX_STEP does nothing (R201). -/
theorem moved_of_not_taken (h : r.txb = false ∨ inp.txReady = false) : moved inp r = { r with frmV := false } := by
  rw [← transmit_clearFrameValid, transmit, txAccepted, if_neg (by rcases h with h | h <;> simp [h])]
  rfl

/-! `CLOSED` and `OPEN_CHAN` -/

theorem openAccept_eq_openedWith : openAccept inp q = openedWith inp.cfgRole inp.cfgTimeout inp.cfgMaxRetry q := by
  rw [openedWith, openAccept]
  cases inp.cfgRole <;> rfl

theorem cycle_of_closed (hrst : inp.rst = false) (hs : r.sess = .closed) :
    cycle inp r = if presents inp 1 then openedWith inp.cfgRole inp.cfgTimeout inp.cfgMaxRetry (moved inp r)
      else moved inp r := by
  rw [cycle_eq_controller hrst]
  simp only [controller, hs, openAccept_eq_openedWith, presents_opn_iff]

theorem channelOpen_eq_channelOpened : channelOpen inp r q =
    if inp.chanOpenFail = true then { q with err := .channelOpenFailed, sess := .closed }
    else if inp.chanOpenAck = true then channelOpened r q else q := by
  unfold channelOpen channelOpened
  cases r.role <;> rfl

theorem cycle_of_openChan (hrst : inp.rst = false) (hs : r.sess = .openChan) :
    cycle inp r =
      if inp.chanOpenFail = true then { moved inp r with err := .channelOpenFailed, sess := .closed }
      else if inp.chanOpenAck = true then channelOpened r (moved inp r) else moved inp r := by
  rw [cycle_eq_controller hrst]
  simp only [controller, hs, channelOpen_eq_channelOpened]

/-! `OPEN_WAIT`, in the priority of R188 -/

theorem doneEvent_iff_confirms_of_openWait (hs : r.sess = .openWait) (herr : inp.chanErr = false) :
    doneEvent r inp = true ↔ confirms inp r := by
  rw [doneEvent_iff_confirms, and_iff_right hs, and_iff_right herr]

/-- The first event of R188. -/
theorem cycle_of_openWait_chanErr (hrst : inp.rst = false) (hs : r.sess = .openWait) (herr : inp.chanErr = true) :
    cycle inp r = failed .channelIOFailed r (moved inp r) := by
  rw [cycle_eq_controller hrst]
  simp only [controller, hs, awaitReply, herr, if_true, errorEntry_eq, failed]

/-- The second event of R188, by role (R225, R226). -/
theorem cycle_of_openWait_confirms (hrst : inp.rst = false) (hs : r.sess = .openWait) (herr : inp.chanErr = false)
    (hconf : confirms inp r) : cycle inp r = accepted r (moved inp r) := by
  have hdone : doneEvent r inp = true := (doneEvent_iff_confirms_of_openWait hs herr).2 hconf
  have hparse : parseCycle inp r (moved inp r) = { moved inp r with rstate := .done, frmV := true } := by
    have hbyte : consumedByte r inp = some flag := consumedByte_eq_some.2 ⟨hs, herr, hconf.1, hconf.2.2⟩
    rw [parseCycle_eq, hdone, hbyte, hconf.2.1]
    rfl
  rw [cycle_eq_controller hrst]
  simp only [controller, hs, awaitReply, herr, hdone, hparse, if_true, Bool.false_eq_true, if_false, accepted]
  cases r.role <;> rfl

/-- The registers of a cycle in `OPEN_WAIT` with no event of higher priority, but for the timer: TX_STEP and the
parser. -/
def heard (inp : Input) (r : Regs) : Regs :=
  { moved inp r with
    rstate := if inp.rxValid = true then (parseStep r.rstate inp.rxData r.expA r.expC).1 else r.rstate }

/-- TIMER_STEP (R190). -/
theorem timerCycle_eq_expired (txdone : Bool) : timerCycle inp txdone r q =
    if r.tmrSt = .pend ∧ txdone = true then { q with tmrSt := .run, tmrCnt := r.timeout }
    else if r.tmrSt = .run ∧ inp.tick = true then
      if r.tmrCnt.toNat ≤ 1 then expired r q else { q with tmrCnt := r.tmrCnt - 1 }
    else q := by
  rw [timerCycle, countTick_eq_expired]
  split
  case isTrue hstart => exact if_pos hstart
  case isFalse => rfl

/-- The two last events of R188. -/
theorem cycle_of_openWait_quiet (hrst : inp.rst = false) (hs : r.sess = .openWait) (herr : inp.chanErr = false)
    (hconf : ¬ confirms inp r) :
    cycle inp r =
      if r.role = .receiver then heard inp r
      else if r.tmrSt = .pend ∧ lastTaken inp r then { heard inp r with tmrSt := .run, tmrCnt := r.timeout }
      else if r.tmrSt = .run ∧ inp.tick = true then
        if r.tmrCnt.toNat ≤ 1 then expired r (heard inp r) else { heard inp r with tmrCnt := r.tmrCnt - 1 }
      else heard inp r := by
  have hdone : doneEvent r inp = false :=
    Bool.eq_false_iff.2 (mt (doneEvent_iff_confirms_of_openWait hs herr).1 hconf)
  have hparse : parseCycle inp r (moved inp r) = heard inp r := by
    rw [parseCycle_eq, hdone, consumedByte_eq_ite, heard]
    cases hrx : inp.rxValid <;> simp [hs, herr, parseStep_fst, moved]
  rw [cycle_eq_controller hrst]
  simp only [controller, hs, awaitReply_of_no_event herr hdone, hparse]
  cases hr : r.role with
  | receiver => rfl
  | transmitter =>
    rw [if_pos rfl, if_neg nofun, timerCycle_eq_expired]
    simp only [txDone_iff]

/-! `OPEN_ACK`, `OPEN` and `CLOSING` -/

theorem cycle_of_openAck (hrst : inp.rst = false) (hs : r.sess = .openAck) :
    cycle inp r =
      if inp.chanErr = true then failed .channelIOFailed r (moved inp r)
      else if lastTaken inp r then { moved inp r with sess := .opened } else moved inp r := by
  rw [cycle_eq_controller hrst]
  simp only [controller, hs, sendingUA, errorEntry_eq, failed, txDone_iff]

theorem cycle_of_opened (hrst : inp.rst = false) (hs : r.sess = .opened) :
    cycle inp r =
      if inp.chanErr = true then failed .channelIOFailed r (moved inp r)
      else if presents inp 2 then { moved inp r with sess := .closing } else moved inp r := by
  rw [cycle_eq_controller hrst]
  simp only [controller, hs, linkOpen, errorEntry_eq, failed, presents_close_iff]

theorem cycle_of_closing (hrst : inp.rst = false) (hs : r.sess = .closing) :
    cycle inp r =
      if inp.chanErr = true then
        { moved inp r with
          err := if r.err = .none then .channelIOFailed else r.err
          txb := false, txi := 0, sess := .closed }
      else if r.txb = false ∧ inp.chanCloseAck = true then { moved inp r with sess := .closed }
      else moved inp r := by
  rw [cycle_eq_controller hrst]
  simp only [controller, hs, release, recordError_eq, dropFrame]
  rfl

end Sys2Proof.Machine
end

section
/-! The commands and events that a link state does not read (R231, R294), and the bytes that the channel takes from a
frame (R201). -/

namespace Sys2Proof.Machine

open Sys2Proof.Laws Sys2Proof.Claims

/-! Where commands and answers are read. -/

section
variable {wTmr wRetry : Nat} {s n : Regs wTmr wRetry} {inp : Input wTmr wRetry}

theorem linkOpen_of_ne_close (h : command inp ≠ .close) :
    linkOpen inp s n = if inp.chanErr then errorEntry .channelIOFailed s n else n := by
  rw [linkOpen, if_neg h]

/-- The command of this cycle is legal (R231): OPEN in `CLOSED` or CLOSE in `OPEN`, without `rst`. -/
def AcceptsCommand (inp : Input wTmr wRetry) (s : Regs wTmr wRetry) : Prop :=
  inp.rst = false ∧ (s.sess = .closed ∧ command inp = .opn ∨ s.sess = .opened ∧ command inp = .close)

theorem not_acceptsCommand_nop (hc : command inp = .nop) : ¬ AcceptsCommand inp s := by simp [AcceptsCommand, hc]

theorem acceptsCommand_opn_iff (hc : command inp = .opn) :
    AcceptsCommand inp s ↔ inp.rst = false ∧ s.sess = .closed := by simp [AcceptsCommand, hc]

theorem acceptsCommand_close_iff (hc : command inp = .close) :
    AcceptsCommand inp s ↔ inp.rst = false ∧ s.sess = .opened := by simp [AcceptsCommand, hc]

/-- A command that is not accepted is as good as none (R230, R231). -/
theorem cycle_cmd_eq {valid : Bool} {op : BitVec 3}
    (h : ¬ AcceptsCommand { inp with cmdValid := valid, cmdOp := op } s) :
    cycle { inp with cmdValid := valid, cmdOp := op } s = cycle { inp with cmdValid := false } s := by
  have hnone (c : Command) (hc : c ≠ .nop) : command { inp with cmdValid := false } ≠ c := hc.symm
  unfold cycle
  split
  case isTrue => rfl
  case isFalse hrst =>
    have hrst : inp.rst = false := Bool.eq_false_iff.2 hrst
    unfold controller
    split
    -- `CLOSED`
    case h_1 hs => exact (if_neg fun hc => h ⟨hrst, .inl ⟨hs, hc⟩⟩).trans (if_neg (hnone _ (by decide))).symm
    -- `OPEN`
    case h_5 hs =>
      exact (linkOpen_of_ne_close fun hc => h ⟨hrst, .inr ⟨hs, hc⟩⟩).trans
        (linkOpen_of_ne_close (hnone _ (by decide))).symm
    all_goals rfl

theorem cycle_onlyCmd_of_not_accepts {op : BitVec 3} (h : ¬ AcceptsCommand (.onlyCmd op) s) :
    cycle (.onlyCmd op) s = { s with frmV := false } :=
  (cycle_cmd_eq (inp := .idle) h).trans (cycle_idle s)

theorem cycle_onlyOpen_of_ne_closed (hs : s.sess ≠ .closed) (role : Role) (timeout : Ticks wTmr)
    (maxRetry : Retries wRetry) : cycle (.onlyOpen role timeout maxRetry) s = { s with frmV := false } := by
  have hcmd : ¬ AcceptsCommand (.onlyOpen role timeout maxRetry) s := fun h => hs ((acceptsCommand_opn_iff rfl).1 h).2
  have hopen : ¬ (s.sess = .closed ∧ command (.idle : Input wTmr wRetry) = .opn) := fun h => hs h.1
  have hcfg := cycle_cmd_eq hcmd (inp := { (Input.idle : Input wTmr wRetry) with
    cfgRole := role, cfgTimeout := timeout, cfgMaxRetry := maxRetry })
  exact hcfg.trans ((cycle_cfg_eq hopen role timeout maxRetry).trans (cycle_idle s))

/-- The answers to `chan_open_req` are read in `OPEN_CHAN` only (R294). -/
theorem cycle_openAnswers_eq (h : s.sess ≠ .openChan) (ack fail : Bool) :
    cycle { inp with chanOpenAck := ack, chanOpenFail := fail } s = cycle inp s := by
  unfold cycle
  split
  · rfl
  · unfold controller
    split
    -- `OPEN_CHAN`
    case h_2 hs => exact absurd hs h
    all_goals rfl

/-- The answer to `chan_close_req` is read in `CLOSING` with an idle transmitter only (R229, R294). -/
theorem cycle_closeAnswer_eq (h : ¬ (s.sess = .closing ∧ s.txb = false)) (ack : Bool) :
    cycle { inp with chanCloseAck := ack } s = cycle inp s := by
  unfold cycle
  split
  · rfl
  · unfold controller
    split
    -- `CLOSING`
    case h_6 hs =>
      have hbusy : s.txb = true := Bool.of_not_eq_false fun hb => h ⟨hs, hb⟩
      simp only [release, hbusy]
      rfl
    all_goals rfl

end

/-! `tx_ready` alone, and a frame that the channel takes in five such cycles. -/

variable {r : Regs}

/-- What the controller does with the last byte of a frame, `r` being the state at the start and `q` what was written: a
waiting transmitter's timer starts (R174), a receiver's link opens (R227). -/
def sent (r q : Regs) : Regs :=
  if r.sess = .openWait ∧ r.role = .transmitter ∧ r.tmrSt = .pend then { q with tmrSt := .run, tmrCnt := r.timeout }
  else if r.sess = .openAck then { q with sess := .opened }
  else q

/-- Short of the last byte the transmitter acts alone. -/
theorem cycle_onlyTxReady (r : Regs) : cycle .onlyTxReady r =
    if lastTaken .onlyTxReady r then sent r (moved .onlyTxReady r) else moved .onlyTxReady r := by
  cases hs : r.sess with
  | closed =>
    rw [cycle_of_closed (by rfl) hs, if_neg (by decide)]
    simp [sent, hs]
  | openChan =>
    rw [cycle_of_openChan (by rfl) hs, if_neg (by decide), if_neg (by decide)]
    simp [sent, hs]
  | openWait =>
    rw [cycle_of_openWait_quiet (by rfl) hs (by rfl) fun h => absurd h.1 (by decide)]
    have hheard : heard .onlyTxReady r = moved .onlyTxReady r := rfl
    have hnotick : ¬ (r.tmrSt = .run ∧ (.onlyTxReady : Input).tick = true) := fun h => absurd h.2 (by decide)
    rw [hheard, if_neg hnotick, sent, hs]
    by_cases hlast : lastTaken .onlyTxReady r
    · rw [if_pos hlast]
      cases r.role <;> simp [and_iff_left hlast]
    · have hmore : ¬ (r.tmrSt = .pend ∧ lastTaken .onlyTxReady r) := fun h => hlast h.2
      rw [if_neg hlast, if_neg hmore, ite_self]
  | openAck =>
    rw [cycle_of_openAck (by rfl) hs, if_neg (by decide)]
    simp [sent, hs]
  | opened =>
    rw [cycle_of_opened (by rfl) hs, if_neg (by decide), if_neg (by decide)]
    simp [sent, hs]
  | closing =>
    have hnoack : ¬ (r.txb = false ∧ (.onlyTxReady : Input).chanCloseAck = true) := fun h => absurd h.2 (by decide)
    rw [cycle_of_closing (by rfl) hs, if_neg (by decide), if_neg hnoack]
    simp [sent, hs]

theorem cycle_onlyTxReady_of_idle (hb : r.txb = false) : cycle .onlyTxReady r = { r with frmV := false } := by
  rw [cycle_onlyTxReady, if_neg (by simp [hb]), moved_of_not_taken (.inl hb)]

theorem cycle_onlyTxReady_of_more (hb : r.txb = true) (hi : r.txi ≠ 4) :
    cycle .onlyTxReady r = { r with frmV := false, txi := r.txi + 1 } := by
  have hready : (Input.onlyTxReady : Input).txReady = true := rfl
  rw [cycle_onlyTxReady, if_neg (by simp [hi])]
  simp [moved, hb, hi, hready]

theorem cycle_onlyTxReady_of_last (hb : r.txb = true) (hi : r.txi = 4) :
    cycle .onlyTxReady r = sent r { r with frmV := false, txb := false, txi := 0 } := by
  have hlast : lastTaken .onlyTxReady r := ⟨hb, rfl, hi⟩
  rw [cycle_onlyTxReady, if_pos hlast, moved, if_pos hlast, if_pos hlast]

theorem takenByte_onlyTxReady (hb : r.txb = true) : takenByte r .onlyTxReady = some (frameByte r.txf r.txi) := by
  rw [takenByte, txAccepted, hb]
  rfl

/-- Each of these cycles takes one byte, from the one that is offered to the last of the frame. -/
theorem runCycles_onlyTxReady (hb : r.txb = true) {k : Nat} (hk : r.txi.val + k = 4) :
    takenBytes (List.replicate (k + 1) .onlyTxReady) r = (frameBytes r.txf).drop r.txi ∧
      runCycles (List.replicate (k + 1) .onlyTxReady) r = sent r { r with frmV := false, txb := false, txi := 0 } := by
  induction k generalizing r with
  | zero =>
    have hlast : r.txi = 4 := Fin.ext hk
    refine ⟨?_, cycle_onlyTxReady_of_last hb hlast⟩
    rw [List.replicate_one, takenBytes, takenByte_onlyTxReady hb, hlast]
    rfl
  | succ k ih =>
    have hmore : r.txi ≠ 4 := fun h => by rw [h] at hk; simp at hk
    have hnext : (r.txi + 1).val = r.txi.val + 1 := Fin.val_add_one_of_lt' (by omega)
    have hcycle := cycle_onlyTxReady_of_more hb hmore
    obtain ⟨hbytes, hrun⟩ := ih (r := { r with frmV := false, txi := r.txi + 1 }) hb
      (by show (r.txi + 1).val + k = 4; omega)
    rw [List.replicate_succ, takenBytes, runCycles_cons, hcycle, hbytes, hrun, takenByte_onlyTxReady hb,
      drop_frameBytes r.txf r.txi, ← hnext]
    exact ⟨rfl, rfl⟩

/-! The two halves of a handshake (R239). -/

/-- A transmitter that has just loaded its frame sends it and starts its timer. -/
theorem runCycles_onlyTxReady_transmitter (hs : r.sess = .openWait) (hr : r.role = .transmitter)
    (hpend : r.tmrSt = .pend) (hb : r.txb = true) (hi : r.txi = 0) :
    takenBytes (List.replicate 5 .onlyTxReady) r = frameBytes r.txf ∧
      runCycles (List.replicate 5 .onlyTxReady) r =
        { r with frmV := false, txb := false, txi := 0, tmrSt := .run, tmrCnt := r.timeout } := by
  obtain ⟨hbytes, hrun⟩ := runCycles_onlyTxReady hb (k := 4) (by rw [hi]; rfl)
  rw [hi] at hbytes
  exact ⟨hbytes, hrun.trans (if_pos ⟨hs, hr, hpend⟩)⟩

/-- A receiver that has accepted SET sends UA and opens its link. -/
theorem runCycles_onlyTxReady_accepted (hr : r.role = .receiver) :
    takenBytes (List.replicate 5 .onlyTxReady) (accepted r r) = frameBytes uaFrame ∧
      runCycles (List.replicate 5 .onlyTxReady) (accepted r r) =
        { accepted r r with frmV := false, txb := false, txi := 0, sess := .opened } := by
  have hacc : accepted r r = { r with
      rstate := .done, frmV := true, stDone := true, sess := .openAck, txf := uaFrame, txi := 0, txb := true } :=
    if_neg (by simp [hr])
  rw [hacc]
  exact runCycles_onlyTxReady rfl (k := 4) rfl

end Sys2Proof.Machine
end

section
/-! What becomes of a wait (R238): an offer that the channel does not take, and the wait for a frame over any number of
cycles. -/

namespace Sys2Proof.Machine

open Sys2Proof.Laws Sys2Proof.Claims

variable {inp : Input} {r : Regs}

/-- Without an event of higher priority, the wait ends with the expiry that reaches the maximum (R181). -/
theorem sess_of_openWait_quiet (hrst : inp.rst = false) (hs : r.sess = .openWait) (herr : inp.chanErr = false)
    (hconf : ¬ confirms inp r) :
    (cycle inp r).sess =
      if r.role = .transmitter ∧ r.tmrSt = .run ∧ inp.tick = true ∧ r.tmrCnt.toNat ≤ 1 ∧
          r.maxr.toNat ≤ r.retryCnt.toNat + 1 then .closing
      else .openWait := by
  have hheard : (heard inp r).sess = .openWait := hs
  have hexpired : (expired r (heard inp r)).sess =
      if r.maxr.toNat ≤ r.retryCnt.toNat + 1 then .closing else .openWait := by
    rw [expired, apply_ite Regs.sess, hheard]
    rfl
  rw [cycle_of_openWait_quiet hrst hs herr hconf]
  cases hr : r.role with
  | receiver => simp [hheard]
  | transmitter =>
    by_cases hrun : r.tmrSt = .run
    · simp [hrun, apply_ite Regs.sess, hheard, hexpired, ite_and]
    · simp [hrun, apply_ite Regs.sess, hheard]

/-- A byte that is offered and not taken stays on offer (R201): the frame is complete before the timer runs (INV4), and
only `chan_err` drops it. -/
theorem Regs.Inv.offer_after_cycle (h : r.Inv) (hb : r.txb = true) (hrst : inp.rst = false) (herr : inp.chanErr = false)
    (hready : inp.txReady = false) :
    (cycle inp r).txb = true ∧ (cycle inp r).txi = r.txi ∧ (cycle inp r).txf = r.txf := by
  have hmoved : moved inp r = { r with frmV := false } := moved_of_not_taken (.inr hready)
  have hno : ¬ inp.chanErr = true := by simp [herr]
  have hmore : ¬ lastTaken inp r := by simp [hready]
  cases hs : r.sess with
  | closed => simp [h.inv9 (.inl hs)] at hb
  | openChan => simp [h.inv9 (.inr hs)] at hb
  | openWait =>
    cases hr : r.role with
    | receiver => simp [(h.inv14 hs hr).2.1] at hb
    | transmitter =>
      have hrun : r.tmrSt ≠ .run := fun hrun => by simp [(h.inv4 hrun).1] at hb
      by_cases hconf : confirms inp r
      · rw [cycle_of_openWait_confirms hrst hs herr hconf, accepted, if_pos hr, hmoved]
        exact ⟨hb, rfl, rfl⟩
      · rw [cycle_of_openWait_quiet hrst hs herr hconf, if_neg (by simp [hr]), if_neg fun h => hmore h.2,
          if_neg fun h => hrun h.1, heard, hmoved]
        exact ⟨hb, rfl, rfl⟩
  | openAck =>
    rw [cycle_of_openAck hrst hs, if_neg hno, if_neg hmore, hmoved]
    exact ⟨hb, rfl, rfl⟩
  | opened =>
    rw [cycle_of_opened hrst hs, if_neg hno, hmoved]
    split <;> exact ⟨hb, rfl, rfl⟩
  | closing =>
    rw [cycle_of_closing hrst hs, if_neg hno, hmoved]
    split <;> exact ⟨hb, rfl, rfl⟩

/-- The wait for a frame goes on while no frame is validated, in a transmitter as long as no tick comes. -/
theorem sess_openWait_after_runCycles (hs : r.sess = .openWait) {ins : List Input}
    (hins : ∀ i ∈ ins, i.rst = false ∧ i.chanErr = false ∧ (r.role = .transmitter → i.tick = false))
    (hpulse : ∀ k < ins.length, (runCycles (ins.take (k + 1)) r).frmV = false) :
    (runCycles ins r).sess = .openWait := by
  induction ins generalizing r with
  | nil => exact hs
  | cons i ins ih =>
    obtain ⟨⟨hrst, herr, htick⟩, hrest⟩ := List.forall_mem_cons.1 hins
    have hconf : ¬ confirms i r := fun hconf => by
      have hpulse0 : (cycle i r).frmV = false := hpulse 0 (by simp)
      exact Bool.eq_false_iff.1 hpulse0 ((frameValidFollowsDoneEvent i r).1.2 ⟨hrst, hs, herr, hconf⟩)
    have hopen : ¬ (r.sess = .closed ∧ command i = .opn) := by simp [hs]
    have hrole : (cycle i r).role = r.role := by
      rw [(sameRecord_cycle hrst hopen).role, recorded, parseCycle_eq]
    refine ih ?_ (by rwa [hrole]) fun k hk => hpulse (k + 1) (by simpa using hk)
    rw [sess_of_openWait_quiet hrst hs herr hconf, if_neg fun h => by simp [htick h.1] at h]

/-- What every cycle of a run keeps, the run keeps. -/
theorem runCycles_keeps {P : Regs → Prop} {ins : List Input} (h : P r)
    (hstep : ∀ n, P n → ∀ i ∈ ins, P (cycle i n)) : P (runCycles ins r) :=
  List.foldlRecOn ins _ h hstep

end Sys2Proof.Machine
end

section
/-! The obligations of spec/43_session.md. -/

namespace Sys2Proof.Machine

open Sys2Proof.Laws Sys2Proof.Claims

/-- Settles O31: the events of R188, one by one. -/
theorem cycleInOpenWait : Obligations.CycleInOpenWait := by
  intro s inp hrst hres hs
  rw [exec_step hres]
  refine congrArg s.goesOn ?_
  dsimp only
  split
  case isTrue herr => exact cycle_of_openWait_chanErr hrst hs herr
  case isFalse herr =>
    have herr : inp.chanErr = false := Bool.eq_false_iff.2 herr
    split
    case isTrue hconf => exact cycle_of_openWait_confirms hrst hs herr hconf
    case isFalse hconf => exact cycle_of_openWait_quiet hrst hs herr hconf

/-- Settles O32: one rule per link state. -/
theorem cycleInTheOtherStates : Obligations.CycleInTheOtherStates := by
  intro s inp hrst hres hne
  rw [exec_step hres]
  refine congrArg s.goesOn ?_
  dsimp only
  cases hs : s.regs.sess with
  | openWait => exact absurd hs hne
  | closed => exact cycle_of_closed hrst hs
  | openChan => exact cycle_of_openChan hrst hs
  | openAck => exact cycle_of_openAck hrst hs
  | opened => exact cycle_of_opened hrst hs
  | closing => exact cycle_of_closing hrst hs

/-- Settles O53: `SESS` after the cycle, by the rule of each link state. -/
theorem linkStateTransitions : Obligations.LinkStateTransitions := by
  intro inp r hrst
  have hkeep : (moved inp r).sess = r.sess := rfl
  cases hs : r.sess with
  | closed => rw [cycle_of_closed hrst hs, apply_ite Regs.sess, hkeep, hs]; rfl
  | openChan =>
    rw [cycle_of_openChan hrst hs, apply_ite Regs.sess, apply_ite Regs.sess, hkeep, hs, channelOpened]
    cases r.role <;> rfl
  | openWait =>
    dsimp only
    split
    case isTrue herr => rw [cycle_of_openWait_chanErr hrst hs herr]; rfl
    case isFalse herr =>
      have herr : inp.chanErr = false := Bool.eq_false_iff.2 herr
      split
      case isTrue hconf =>
        rw [cycle_of_openWait_confirms hrst hs herr hconf, accepted, apply_ite Regs.sess]
      case isFalse hconf => exact sess_of_openWait_quiet hrst hs herr hconf
  | openAck => rw [cycle_of_openAck hrst hs, apply_ite Regs.sess, apply_ite Regs.sess, hkeep, hs]; rfl
  | opened => rw [cycle_of_opened hrst hs, apply_ite Regs.sess, apply_ite Regs.sess, hkeep, hs]; rfl
  | closing => rw [cycle_of_closing hrst hs, apply_ite Regs.sess, apply_ite Regs.sess, hkeep, hs]

/-- Settles O33: OPEN is accepted in `CLOSED` and CLOSE in `OPEN`; a command that is not accepted is as good as none. -/
theorem commandsInEveryState : Obligations.CommandsInEveryState := by
  intro s role timeout maxRetry
  refine ⟨exec_input?_eq_goesOn (inp := .onlyOpen role timeout maxRetry) rfl rfl ?opn,
    exec_input?_eq_goesOn (inp := .onlyCmd 2) rfl rfl ?close, exec_input?_eq_goesOn (inp := .onlyCmd 0) rfl rfl ?nop⟩
  case opn =>
    split
    case isTrue hs => rw [cycle_of_closed rfl hs, if_pos ⟨rfl, rfl⟩, moved_of_not_taken (.inr rfl)]; rfl
    case isFalse hs => exact cycle_onlyOpen_of_ne_closed hs role timeout maxRetry
  case close =>
    split
    case isTrue hs =>
      rw [cycle_of_opened rfl hs, if_neg (by decide), if_pos ⟨rfl, rfl⟩, moved_of_not_taken (.inr rfl)]
    case isFalse hs => exact cycle_onlyCmd_of_not_accepts fun h => hs ((acceptsCommand_close_iff rfl).1 h).2
  case nop => exact cycle_onlyCmd_of_not_accepts (not_acceptsCommand_nop rfl)

/-- Settles O35: OPEN is accepted in `CLOSED` only and CLOSE in `OPEN` only, and neither with `rst`. -/
theorem illegalCommandsAreIgnored : Obligations.IllegalCommandsAreIgnored := by
  intro inp r
  refine ⟨fun h => cycle_cmd_eq fun hopn => ?opn, fun h => cycle_cmd_eq fun hclose => ?close⟩
  case opn =>
    obtain ⟨hrst, hs⟩ := (acceptsCommand_opn_iff rfl).1 hopn
    exact h.elim (· hs) (Bool.eq_false_iff.1 hrst)
  case close =>
    obtain ⟨hrst, hs⟩ := (acceptsCommand_close_iff rfl).1 hclose
    exact h.elim (· hs) (Bool.eq_false_iff.1 hrst)

/-- Settles O34: NOP is accepted in no state. -/
theorem nopIsAsNoCommand : Obligations.NopIsAsNoCommand := fun _ _ _ =>
  ⟨cycle_cmd_eq (not_acceptsCommand_nop rfl), cycle_cmd_eq (not_acceptsCommand_nop rfl)⟩

/-- Settles O36: a cycle that presents a reserved command is refused before it is applied, with `rst` too (log 8). -/
theorem reservedCommandsAreRefused : Obligations.ReservedCommandsAreRefused := fun s =>
  ⟨rfl, rfl, rfl, rfl, rfl, fun _ h => runCycle_reserved (isReserved_command_iff.2 h) s⟩

/-- Settles O37: outside `OPEN_CHAN` the cycle is one with no event. -/
theorem channelOpenAnswers : Obligations.ChannelOpenAnswers := by
  intro s
  refine ⟨exec_input?_eq_goesOn rfl rfl ?ack, exec_input?_eq_goesOn rfl rfl ?fail⟩
  case ack =>
    split
    case isTrue hs =>
      rw [cycle_of_openChan (by rfl) hs, if_neg (by decide), if_pos (by rfl), moved_of_not_taken (.inr rfl)]
    case isFalse hs => exact (cycle_openAnswers_eq (inp := .idle) hs true false).trans (cycle_idle _)
  case fail =>
    split
    case isTrue hs => rw [cycle_of_openChan (by rfl) hs, if_pos (by rfl), moved_of_not_taken (.inr rfl)]
    case isFalse hs => exact (cycle_openAnswers_eq (inp := .idle) hs false true).trans (cycle_idle _)

/-- Settles O38: an answer that nothing asked for is no event; `chan_err` is in the rule of each link state. -/
theorem closeAckAndChannelError : Obligations.CloseAckAndChannelError := by
  intro s
  refine ⟨exec_input?_eq_goesOn rfl rfl ?ack, exec_input?_eq_goesOn rfl rfl ?err⟩
  case ack =>
    split
    case isTrue h =>
      rw [cycle_of_closing (by rfl) h.1, if_neg (by decide), if_pos ⟨h.2, rfl⟩, moved_of_not_taken (.inr rfl)]
    case isFalse h => exact (cycle_closeAnswer_eq (inp := .idle) h true).trans (cycle_idle _)
  case err =>
    have hmoved : moved .onlyChanErr s.regs = { s.regs with frmV := false } := moved_of_not_taken (.inr rfl)
    rw [← hmoved]
    cases hs : s.regs.sess with
    | closed => rw [cycle_of_closed (by rfl) hs]; rfl
    | openChan => rw [cycle_of_openChan (by rfl) hs]; rfl
    | openWait => rw [cycle_of_openWait_chanErr (by rfl) hs (by rfl)]; rfl
    | openAck => rw [cycle_of_openAck (by rfl) hs]; rfl
    | opened => rw [cycle_of_opened (by rfl) hs]; rfl
    | closing => rw [cycle_of_closing (by rfl) hs]; rfl

/-- Settles O39: nothing is offered, or a byte that is not the last of its frame, or the last. -/
theorem transmitReadyTakesOneByte : Obligations.TransmitReadyTakesOneByte := by
  intro s
  refine exec_input?_eq_goesOn rfl rfl ?_
  dsimp only
  split
  case isTrue hb => exact cycle_onlyTxReady_of_idle hb
  case isFalse hb =>
    have hb : s.regs.txb = true := by simpa using hb
    split
    case isTrue hmore => exact cycle_onlyTxReady_of_more hb hmore
    case isFalse hlast => exact cycle_onlyTxReady_of_last hb (not_not.1 hlast)

/-- Settles O52: what a wait reads of its inputs in one cycle, over any number of cycles. -/
theorem waitsAreUnbounded : Obligations.WaitsAreUnbounded := by
  intro ins r hrst
  refine ⟨fun hs hr herr hpulse => ?receiver, fun hs hquiet => ?openChan, fun hs hquiet => ?closing,
    fun hinv hb hquiet => ?offer, fun hs hr hquiet hpulse => ?transmitter⟩
  case receiver =>
    exact sess_openWait_after_runCycles hs (fun i hi => ⟨hrst i hi, herr i hi, by simp [hr]⟩) hpulse
  case transmitter =>
    exact sess_openWait_after_runCycles hs
      (fun i hi => ⟨hrst i hi, (hquiet i hi).1, fun _ => (hquiet i hi).2⟩) hpulse
  case openChan =>
    refine runCycles_keeps (P := fun n => n.sess = .openChan) hs fun n hn i hi => ?_
    rw [linkStateTransitions i n (hrst i hi), hn]
    simp [hquiet i hi]
  case closing =>
    refine runCycles_keeps (P := fun n => n.sess = .closing) hs fun n hn i hi => ?_
    rw [linkStateTransitions i n (hrst i hi), hn]
    simp [hquiet i hi]
  case offer =>
    refine (runCycles_keeps (P := fun n => n.Inv ∧ n.txb = true ∧ n.txi = r.txi ∧ n.txf = r.txf)
      ⟨hinv, hb, rfl, rfl⟩ fun n hn i hi => ?_).2
    obtain ⟨hn, hb, htxi, htxf⟩ := hn
    obtain ⟨hb', htxi', htxf'⟩ := hn.offer_after_cycle hb (hrst i hi) (hquiet i hi).1 (hquiet i hi).2
    exact ⟨hn.after_cycle i, hb', htxi'.trans htxi, htxf'.trans htxf⟩

/-- Settles O59: SET is the frame that the receiver awaits, and the UA that it sends the one that the transmitter
awaits. -/
theorem twoCoresOpenALink : Obligations.TwoCoresOpenALink := by
  intro timeout timeout' maxRetry maxRetry' ready t0 t1 r0 r1 r2 t2
  obtain ⟨hset, ht1⟩ : takenBytes ready t0 = frameBytes setFrame ∧ t1 = _ :=
    runCycles_onlyTxReady_transmitter (r := t0) rfl rfl rfl rfl rfl
  have hr1 : r1 = accepted r0 r0 := by
    have hreceive : r1 = receiveFrame setFrame r0 := congrArg (fun bs => runCycles (rxCycles bs) r0) hset
    rw [hreceive]
    exact receiveFrame_awaited rfl (show RState.start ≠ .checksumOk by decide) rfl rfl (by decide)
  obtain ⟨hua, hr2⟩ := runCycles_onlyTxReady_accepted (r := r0) rfl
  rw [← hr1] at hua hr2
  have ht2 : t2 = accepted t1 t1 := by
    have hreceive : t2 = receiveFrame uaFrame t1 := congrArg (fun bs => runCycles (rxCycles bs) t1) hua
    rw [hreceive, ht1]
    exact receiveFrame_awaited rfl (show RState.start ≠ .checksumOk by decide) rfl rfl (by decide)
  have hr2 : r2 = _ := hr2
  rw [hr2, hr1, ht2, ht1]
  exact ⟨rfl, rfl, rfl, rfl, rfl, rfl, rfl, rfl⟩

end Sys2Proof.Machine
end

section
/-! The obligations of spec/60_exceptions.md: the error entry (R254), the code that no rule raises (R253), and the error
that is kept (R255). -/

namespace Sys2Proof.Machine

open Sys2Proof.Laws Sys2Proof.Claims

variable {inp : Input} {r : Regs}

/-! ERROR_EXIT and EXHAUSTED. -/

/-- The error entry in the words of R254. -/
theorem errorEntry_eq_failed (code : Err) (r q : Regs) : errorEntry code r q = failed code r q :=
  errorEntry_eq code r q

/-- The entry leaves the session in `CLOSING` with nothing to send, which is when the core asks the channel to close
(R49). -/
theorem chanCloseReq_failed (code : Err) (r q : Regs) : (outputs (failed code r q)).chanCloseReq = true := rfl

/-- No rule raises `ProtocolViolation` (R253). -/
theorem exec_errorExit_protocolViolation (s : State) :
    exec (.errorExit .protocolViolation) s = .refused .protocolViolationRaised := rfl

/-- EXHAUSTED sets `ST_ABORT` and enters the error (R180). -/
theorem exec_exhausted (s : State) :
    exec .exhausted s = s.goesOn (errorEntry .connectionTimeout s.regs (setAbort s.regs)) := rfl

/-- Settles O26: every code that `ERR` can hold runs the error entry. -/
theorem errorEntryGoesToClosing : Obligations.ErrorEntryGoesToClosing := by
  refine ⟨fun s code => ?_, fun s => ?_, fun code r => chanCloseReq_failed code r r⟩
  · cases code with
    | protocolViolation => exact exec_errorExit_protocolViolation s
    | none => exact congrArg s.goesOn (errorEntry_eq_failed .none _ _)
    | channelOpenFailed => exact congrArg s.goesOn (errorEntry_eq_failed .channelOpenFailed _ _)
    | channelIOFailed => exact congrArg s.goesOn (errorEntry_eq_failed .channelIOFailed _ _)
    | connectionTimeout => exact congrArg s.goesOn (errorEntry_eq_failed .connectionTimeout _ _)
  · rw [exec_exhausted, errorEntry_eq_failed]
    rfl

/-! `ERR` never holds the code 4. -/

/-- The codes that `ERR` can hold are 0 to 3 (R43, R105). -/
theorem errCode_ne_protocolViolation (e : Err) : errCode e ≠ namedCode .protocolViolation := by
  cases e <;> decide

/-- Settles O47: the refusal is ERROR_EXIT's own, and every state's `err_code` is the code of an `Err`. -/
theorem protocolViolationIsNeverRaised : Obligations.ProtocolViolationIsNeverRaised :=
  ⟨rfl, exec_errorExit_protocolViolation, fun r => errCode_ne_protocolViolation r.err,
    fun _ _ t _ => errCode_ne_protocolViolation t.regs.err⟩

/-! The first error is kept. -/

/-- By INV6 an error is held only once the session is over or closing. -/
theorem Regs.Inv.sess_of_err (h : r.Inv) (herr : r.err ≠ .none) : r.sess = .closed ∨ r.sess = .closing :=
  or_iff_not_imp_left.2 fun hclosed => not_not.1 fun hclosing => herr (h.inv6 hclosed hclosing)

/-- TX_STEP does not write `ERR` (R201). -/
@[simp] theorem moved_err (inp : Input) (r : Regs) : (moved inp r).err = r.err := rfl

/-- In `CLOSED` only an accepted OPEN writes `ERR` (R221). -/
theorem cycle_err_of_closed (hrst : inp.rst = false) (hs : r.sess = .closed) (hopen : ¬ presents inp 1) :
    (cycle inp r).err = r.err := by
  rw [cycle_of_closed hrst hs, if_neg hopen, moved_err]

/-- In `CLOSING` a channel error is recorded only while no error is held (R229, R255). -/
theorem cycle_err_of_closing (hrst : inp.rst = false) (hs : r.sess = .closing) (herr : r.err ≠ .none) :
    (cycle inp r).err = r.err := by
  rw [cycle_of_closing hrst hs, if_neg herr]
  split_ifs
  · rfl
  · exact moved_err inp r
  · exact moved_err inp r

/-- Settles O48: the two states that can hold an error, by INV6, keep it. -/
theorem firstErrorIsKept : Obligations.FirstErrorIsKept := by
  intro inp r hinv herr hrst hopen
  rcases hinv.sess_of_err herr with hs | hs
  · exact cycle_err_of_closed hrst hs fun hpresents => hopen ⟨hs, hpresents⟩
  · exact cycle_err_of_closing hrst hs herr

end Sys2Proof.Machine
end

section
/-! The obligations of spec/70_reset_and_hazards.md: the answers that nothing asked for (R294) and reset (R280). -/

namespace Sys2Proof.Machine

open Sys2Proof.Laws Sys2Proof.Claims

/-! `tx_ready` with nothing offered. -/

section
variable {wTmr wRetry : Nat} {s : Regs wTmr wRetry} {inp : Input wTmr wRetry}

/-- With nothing offered no frame ends (R201). -/
theorem txDone_idle (inp : Input wTmr wRetry) (hb : s.txb = false) : txDone s inp = false := by
  simp [txDone, txAccepted, hb]

/-- A cycle without reset and with nothing offered is the controller's alone (R201, R235). -/
theorem cycle_of_txb_false (hrst : inp.rst = false) (hb : s.txb = false) :
    cycle inp s = controller inp false s (clearFrameValid s) := by
  rw [cycle_eq s hrst, txDone_idle inp hb, transmit_idle inp _ hb]

/-- The controller reads of `tx_ready` only the end of a frame (R235). -/
theorem controller_txReady_eq (ready txdone : Bool) (s n : Regs wTmr wRetry) :
    controller { inp with txReady := ready } txdone s n = controller inp txdone s n := rfl

/-- `tx_ready` takes no byte while none is offered (R201, R294). -/
theorem cycle_txReady_eq (hb : s.txb = false) (ready : Bool) :
    cycle { inp with txReady := ready } s = cycle inp s := by
  cases hrst : inp.rst with
  | true => rw [cycle_rst s hrst, cycle_rst s (by rfl)]
  | false =>
    rw [cycle_of_txb_false hrst hb, cycle_of_txb_false (by rfl) hb]
    exact controller_txReady_eq ready false s _

end

/-! The obligations. -/

/-- Settles O40: `OPEN_CHAN` alone reads the open answers, `CLOSING` with an idle transmitter alone the close answer,
and a transmitter with a frame alone `tx_ready`. -/
theorem unaskedAnswersAreIgnored : Obligations.UnaskedAnswersAreIgnored := by
  intro inp r x y
  refine ⟨fun hs => cycle_openAnswers_eq hs x y, fun h => cycle_closeAnswer_eq ?unasked x,
    fun hb => cycle_txReady_eq hb x⟩
  case unasked =>
    rintro ⟨hs, hb⟩
    exact h.elim (· hs) (Bool.eq_false_iff.1 hb)

/-- Settles O41: RST is a cycle with `rst`, and the cycle of `rst` is `ResetState` whatever the registers held. -/
theorem resetReplacesTheWholeState : Obligations.ResetReplacesTheWholeState := by
  intro s zero
  refine ⟨?rst, ?step, rfl, ?outputs⟩
  case rst => exact exec_input?_eq_goesOn (inp := .onlyRst) rfl rfl (cycle_rst s.regs rfl)
  case step =>
    intro inp hrst hordinary
    rw [exec_step hordinary s, cycle_rst s.regs hrst]
    rfl
  case outputs => exact ⟨rfl, rfl, rfl, rfl, rfl, rfl, rfl, rfl⟩

end Sys2Proof.Machine
end
